-- ==== Sys2Proof/Word.lean ====
section
/-! DEFINITION. The widths the spec fixes (R12): the byte of the wire and of a frame-buffer channel, a line
level given as one bit, the 12-bit micro-operation word, the 9-bit wire word, the 16-bit packed pixel word and
the 24-bit packer input. All values are unsigned (R13). -/

namespace Sys2Proof

/-- One byte: a command, a parameter, half a pixel word, or a frame-buffer channel (R12). -/
abbrev Byte := BitVec 8

/-- A level written to a line, or the data/command level that goes with a byte (R68, R70). -/
abbrev Bit := BitVec 1

/-- A `MICRO12` micro-operation word (R67). -/
abbrev MicroWord := BitVec 12

/-- A `WIRE9` word `(dc, b)`: the level of the data/command line above the byte (R68). -/
abbrev WireWord := BitVec 9

/-- A packed RGB565 pixel word (R76), also the width of a column or row address (R12). -/
abbrev Word16 := BitVec 16

/-- The packer's input word, red in bits 23:16 (R75). -/
abbrev PixInWord := BitVec 24

end Sys2Proof
end

