-- ==== Sys2Proof/Syntax.lean ====
section
/-! DEFINITION. The instructions: one constructor for each of the 24 rows of spec/opcode_table.json, namely the
four host operations (R71), the five micro-operations (R67) and the fifteen named panel commands (R77); and
the raw form each is decoded from (a `MICRO12` word, or a `HOST` selector with a list of typed operands). -/

namespace Sys2Proof

/-- The controller variant (R2, R22). -/
inductive Variant where
  | st7789
  | ili9341
deriving DecidableEq, Repr, Inhabited

/-- `CFG.LINES`: three opaque line identifiers (R24). -/
structure Lines where
  dc  : Nat
  rst : Nat
  bl  : Nat
deriving DecidableEq, Repr, Inhabited

/-- `CFG.BUS`: an opaque handle to a configured serial bus (R24). -/
structure Bus where
  handle : Nat
deriving DecidableEq, Repr, Inhabited

/-- The block's instruction set (R10): host operations, micro-operations, and `WRITE_CMD` of a named command. -/
inductive Instr where
  /-- `CONSTRUCT variant, W, H, lines, bus` (R99). -/
  | construct (variant : Variant) (w h : Nat) (lines : Lines) (bus : Bus)
  /-- `INITIALIZE` (R102). -/
  | initializeOp
  /-- `WRITE_FRAME fb` (R132). -/
  | writeFrame (fb : List Byte)
  /-- `PACK565 r, g, b` (R155). -/
  | pack565 (r g b : Byte)
  /-- `WRITE_CMD b` of a byte that is none of the named commands (R86, R82). -/
  | writeCmd (b : Byte)
  /-- `WRITE_DATA b` (R87). -/
  | writeData (b : Byte)
  /-- `SET_RST l` (R89). -/
  | setRst (l : Bit)
  /-- `SET_BL l` (R90). -/
  | setBl (l : Bit)
  /-- `DELAY ms` (R93). -/
  | delay (ms : BitVec 9)
  /-- `CMD SLPOUT` (R126). -/
  | cmdSlpout
  /-- `CMD DISPON` (R127). -/
  | cmdDispon
  /-- `CMD CASET` (R136). -/
  | cmdCaset
  /-- `CMD RASET` (R138). -/
  | cmdRaset
  /-- `CMD RAMWR` (R139). -/
  | cmdRamwr
  /-- `CMD MADCTL` (R116). -/
  | cmdMadctl
  /-- `CMD COLMOD` (R117). -/
  | cmdColmod
  /-- `CMD PORCTRL` (R118). -/
  | cmdPorctrl
  /-- `CMD GCTRL` (R119). -/
  | cmdGctrl
  /-- `CMD VCOMS` (R120). -/
  | cmdVcoms
  /-- `CMD LCMCTRL` (R121). -/
  | cmdLcmctrl
  /-- `CMD PVGAMCTRL` (R122). -/
  | cmdPvgamctrl
  /-- `CMD NVGAMCTRL` (R123). -/
  | cmdNvgamctrl
  /-- `CMD INVON` (R124). -/
  | cmdInvon
  /-- `CMD INVOFF` (R124). -/
  | cmdInvoff
deriving DecidableEq, Repr

/-- A host operand as it arrives at the host boundary (R72). Numbers and frame bytes are naturals here, so that one
outside its type can be written down and refused. -/
inductive Operand where
  | variant (v : Variant)
  | nat (n : Nat)
  | lines (l : Lines)
  | bus (b : Bus)
  | bytes (bs : List Nat)
deriving DecidableEq, Repr

/-- An undecoded instruction: a `HOST` selector with its operands (R71), or a `MICRO12` word (R67). -/
inductive RawInstr where
  | host (opid : BitVec 4) (operands : List Operand)
  | micro (u : MicroWord)
deriving DecidableEq, Repr

/-- Why the decoder gives no instruction. -/
inductive DecodeError where
  /-- A `MICRO12` word of a reserved `KIND`, or `SET_RST`/`SET_BL` with bits 8:1 not zero (R69). -/
  | illegalMicroop (u : MicroWord)
  /-- `OPID` 0 or 5 to 15 (R71). -/
  | reservedOpid (opid : BitVec 4)
  /-- An operand list that does not have the operation's operand types (R72). -/
  | operandOutsideType (opid : BitVec 4)
deriving DecidableEq, Repr

end Sys2Proof
end

