-- ==== Sys2Proof/Config.lean ====
section
/-! DEFINITION. What one implementation fixes and the spec leaves OPEN (R11), as plain data, and the free
values: opaque constants nothing can evaluate. The values of the parameters that the spec gives or defaults
stand in Machine/Params.lean. -/

namespace Sys2Proof

/-- A parameter the spec gives once per controller variant. -/
structure PerVariant (α : Type) where
  st7789  : α
  ili9341 : α
deriving DecidableEq, Repr

/-- The parameter's value for a variant. -/
def PerVariant.get {α : Type} (p : PerVariant α) : Variant → α
  | .st7789  => p.st7789
  | .ili9341 => p.ili9341

/-- The command bytes `OP_<name>` (R77, D15): parameters with defaults. -/
structure OpBytes where
  slpout    : Byte
  dispon    : Byte
  caset     : Byte
  raset     : Byte
  ramwr     : Byte
  madctl    : Byte
  colmod    : Byte
  porctrl   : Byte
  gctrl     : Byte
  vcoms     : Byte
  lcmctrl   : Byte
  pvgamctrl : Byte
  nvgamctrl : Byte
  invon     : Byte
  invoff    : Byte
deriving DecidableEq, Repr

/-- The fifteen named command bytes, in the order of the opcode table. -/
def OpBytes.toList (o : OpBytes) : List Byte :=
  [o.slpout, o.dispon, o.caset, o.raset, o.ramwr, o.madctl, o.colmod, o.porctrl, o.gctrl, o.vcoms, o.lcmctrl,
   o.pvgamctrl, o.nvgamctrl, o.invon, o.invoff]

/-- A bring-up table entry as it is injected, before check `T_BYTES` (R114). -/
structure RawEntry where
  cmd    : Nat
  params : List Nat
deriving DecidableEq, Repr

/-- A bring-up table entry `(cmd, params)` (R23, R73). -/
structure TableEntry where
  cmd    : Byte
  params : List Byte
deriving DecidableEq, Repr

/-- `SPI_MODE(v)`, 0 or 3 (R11). -/
inductive SpiMode where
  | mode0
  | mode3
deriving DecidableEq, Repr

/-- `SPI_BIT_ORDER` (R11, R53). -/
inductive BitOrder where
  | msbFirst
  | lsbFirst
deriving DecidableEq, Repr

/-- The answer of the transport to a byte, or of the platform to an acquisition (R84, R99). -/
inductive Answer where
  | ok
  | fail
deriving DecidableEq, Repr, Inhabited

/-- The implementation parameters of R11 that are OPEN. A predicate on bytes is the list of the bytes it holds
of, and an index map the list of its values that differ from the default, so that all of it is plain data. -/
structure Params where
  /-- `OP_<name>` (R77). -/
  ops : OpBytes
  /-- `MAX_COLS(v)`, where given (R21). -/
  maxCols : PerVariant (Option Nat)
  /-- `MAX_ROWS(v)`, where given (R21). -/
  maxRows : PerVariant (Option Nat)
  /-- `INIT_TABLE(v)` (R9, R23). -/
  initTable : PerVariant (List RawEntry)
  /-- `MADCTL_OK(v, b)`: the bytes it holds of (R114). -/
  madctlOk : PerVariant (List Byte)
  /-- `COLMOD_16BPP(b)`: the bytes it holds of (R114, R117). -/
  colmod16bpp : List Byte
  /-- `SPI_MODE(v)` (R191); no rule of the model reads it. -/
  spiMode : PerVariant SpiMode
  /-- `SPI_HZ`, the bus clock in hertz (R191); no rule of the model reads it. -/
  spiHz : Nat
  /-- `SPI_BIT_ORDER` (R53); no rule of the model reads it. -/
  spiBitOrder : BitOrder
  /-- `CS_POLICY`, an uninterpreted label (R11); no rule of the model reads it. -/
  csPolicy : Nat
  /-- `NN_MAP` (R153): where it maps `(d, S, D)` otherwise than the default. -/
  nnMap : List ((Nat × Nat × Nat) × Nat)
  /-- `CONFIG_CMDS(v)` (R172), `none` for its default. -/
  configCmds : PerVariant (Option (List Byte))
deriving DecidableEq, Repr

/-- FREE VALUE. The `n`-th draw of the environment where no scripted answer is left (R37, R84, R100): a transport
or acquisition answer under no law. It has no body. -/
opaque Config.freeAnswer : Nat → Answer

/-- FREE VALUE. What the latch `PIX_IN` holds where its value is unspecified (R19). -/
opaque Config.freePixIn : Nat → PixInWord

/-- FREE VALUE. What the latch `PIX_OUT` holds where its value is unspecified (R19). -/
opaque Config.freePixOut : Nat → Word16

/-- FREE VALUE. What the latch `BYTE_OUT` holds where its value is unspecified (R19). -/
opaque Config.freeByteOut : Nat → WireWord

end Sys2Proof
end

