-- ==== Sys2Proof/WellFormed.lean ====
section
/-! DEFINITION. Which instructions and which command-byte parameters are well formed, as Bool checks. -/

namespace Sys2Proof

/-- The command bytes are pairwise distinct, so that a whole-word row of the opcode table (R82) matches at most one
named command. -/
def OpBytes.distinct (o : OpBytes) : Bool :=
  decide o.toList.Nodup

/-- Well-formedness of an instruction under the command bytes `o`. The one check is R82's: `WRITE_CMD` as a
constructor of its own carries a byte that is no named command's, since a word that matches a named row is that
row's instruction. Every other operand holds its whole type: widths are in the types, and R21's range for `W` and
`H` is a check of `CONSTRUCT` itself (R99, R101), not of the operand. -/
def Instr.wf (o : OpBytes) : Instr → Bool
  | .construct _ _ _ _ _ => true
  | .initializeOp => true
  | .writeFrame _ => true
  | .pack565 _ _ _ => true
  | .writeCmd b => !(o.toList.contains b)
  | .writeData _ => true
  | .setRst _ => true
  | .setBl _ => true
  | .delay _ => true
  | .cmdSlpout => true
  | .cmdDispon => true
  | .cmdCaset => true
  | .cmdRaset => true
  | .cmdRamwr => true
  | .cmdMadctl => true
  | .cmdColmod => true
  | .cmdPorctrl => true
  | .cmdGctrl => true
  | .cmdVcoms => true
  | .cmdLcmctrl => true
  | .cmdPvgamctrl => true
  | .cmdNvgamctrl => true
  | .cmdInvon => true
  | .cmdInvoff => true

end Sys2Proof
end

