-- ==== Sys2Proof/Decode.lean ====
section
/-! DEFINITION. The decoder, total on every `MICRO12` word and every `HOST` selector with operands, and the
encoder, both written from 30_encoding.md; the default command bytes of R77. -/

namespace Sys2Proof

/-- The default command bytes of R77. [PRESUMED: the spec marks them 'from general knowledge, not in source';
unsafe, see the assumption log.] -/
def OpBytes.default : OpBytes where
  slpout    := 0x11#8
  dispon    := 0x29#8
  caset     := 0x2A#8
  raset     := 0x2B#8
  ramwr     := 0x2C#8
  madctl    := 0x36#8
  colmod    := 0x3A#8
  porctrl   := 0xB2#8
  gctrl     := 0xB7#8
  vcoms     := 0xBB#8
  lcmctrl   := 0xC0#8
  pvgamctrl := 0xE0#8
  nvgamctrl := 0xE1#8
  invon     := 0x21#8
  invoff    := 0x20#8

/-! ## Fields of a `MICRO12` word (R67) -/

/-- `KIND`, `u[11:9]`. -/
def microKind (u : MicroWord) : BitVec 3 := u.extractLsb' 9 3

/-- `DC`, `u[8]`. -/
def microDc (u : MicroWord) : Bit := u.extractLsb' 8 1

/-- `B`, `u[7:0]`. -/
def microByte (u : MicroWord) : Byte := u.extractLsb' 0 8

/-- `u[8:1]`, which must be zero in `SET_RST` and `SET_BL`. -/
def microZero (u : MicroWord) : BitVec 8 := u.extractLsb' 1 8

/-- `L`, `u[0]`. -/
def microLevel (u : MicroWord) : Bit := u.extractLsb' 0 1

/-- `MS`, `u[8:0]`. -/
def microMs (u : MicroWord) : BitVec 9 := u.extractLsb' 0 9

/-! ## Decoding -/

/-- The rows of the opcode table for named commands: the command byte and the instruction (R77, R82). -/
def namedCmds (o : OpBytes) : List (Byte × Instr) :=
  [(o.slpout, .cmdSlpout), (o.dispon, .cmdDispon), (o.caset, .cmdCaset), (o.raset, .cmdRaset),
   (o.ramwr, .cmdRamwr), (o.madctl, .cmdMadctl), (o.colmod, .cmdColmod), (o.porctrl, .cmdPorctrl),
   (o.gctrl, .cmdGctrl), (o.vcoms, .cmdVcoms), (o.lcmctrl, .cmdLcmctrl), (o.pvgamctrl, .cmdPvgamctrl),
   (o.nvgamctrl, .cmdNvgamctrl), (o.invon, .cmdInvon), (o.invoff, .cmdInvoff)]

/-- The instruction of a command byte: its named row, or `WRITE_CMD` of a table command (R82). -/
def decodeCmd (o : OpBytes) (b : Byte) : Instr :=
  match (namedCmds o).find? (fun row => row.1 == b) with
  | some row => row.2
  | none => .writeCmd b

/-- The decoder of `MICRO12` words: by `u[11:9]` first and then by the field checks of R67 (R82, R69). -/
def decodeMicro (o : OpBytes) (u : MicroWord) : Except DecodeError Instr :=
  if microKind u = 0#3 then
    if microDc u = 0#1 then .ok (decodeCmd o (microByte u)) else .ok (.writeData (microByte u))
  else if microKind u = 1#3 then
    if microZero u = 0#8 then .ok (.setRst (microLevel u)) else .error (.illegalMicroop u)
  else if microKind u = 2#3 then
    if microZero u = 0#8 then .ok (.setBl (microLevel u)) else .error (.illegalMicroop u)
  else if microKind u = 3#3 then .ok (.delay (microMs u))
  else .error (.illegalMicroop u)

/-- A natural below 256 as a byte; another is outside the operand's type (R72). -/
def byteOf (n : Nat) : Option Byte :=
  if n < 256 then some (BitVec.ofNat 8 n) else none

/-- A list of naturals as bytes, refused where one is 256 or more. -/
def bytesOf : List Nat → Option (List Byte)
  | [] => some []
  | n :: ns =>
    match byteOf n, bytesOf ns with
    | some b, some bs => some (b :: bs)
    | _, _ => none

/-- The operands of `CONSTRUCT`: `variant, W, H, lines, bus` (R71). -/
def decodeConstruct : List Operand → Option Instr
  | [.variant v, .nat w, .nat h, .lines l, .bus b] => some (.construct v w h l b)
  | _ => none

/-- `INITIALIZE` has no operands (R71). -/
def decodeInitialize : List Operand → Option Instr
  | [] => some .initializeOp
  | _ => none

/-- The operand of `WRITE_FRAME`: a byte list (R71, R72). -/
def decodeWriteFrame : List Operand → Option Instr
  | [.bytes ns] => (bytesOf ns).map .writeFrame
  | _ => none

/-- The operands of `PACK565`: three naturals below 256 (R71, R72). -/
def decodePack565 : List Operand → Option Instr
  | [.nat r, .nat g, .nat b] =>
    match byteOf r, byteOf g, byteOf b with
    | some r, some g, some b => some (.pack565 r g b)
    | _, _, _ => none
  | _ => none

/-- The answer of an operand decoder, or the refusal of an operand outside its type (R72). -/
def orOutsideType (opid : BitVec 4) : Option Instr → Except DecodeError Instr
  | some i => .ok i
  | none => .error (.operandOutsideType opid)

/-- The decoder of host operations: the selector `OPID` (R71), then its operands' types (R72). -/
def decodeHost (opid : BitVec 4) (operands : List Operand) : Except DecodeError Instr :=
  if opid = 1#4 then orOutsideType opid (decodeConstruct operands)
  else if opid = 2#4 then orOutsideType opid (decodeInitialize operands)
  else if opid = 3#4 then orOutsideType opid (decodeWriteFrame operands)
  else if opid = 4#4 then orOutsideType opid (decodePack565 operands)
  else .error (.reservedOpid opid)

/-- The decoder, of both formats. -/
def decode (o : OpBytes) : RawInstr → Except DecodeError Instr
  | .host opid operands => decodeHost opid operands
  | .micro u => decodeMicro o u

/-! ## Encoding -/

/-- `WIRE9` of a byte at a data/command level (R68). -/
def wireWord (dc : Bit) (b : Byte) : WireWord := dc ++ b

/-- `CMD b`, `0x000 | b` (R67, R80). -/
def wordCmd (b : Byte) : MicroWord := 0b0000#4 ++ b

/-- `DAT b`, `0x100 | b` (R67, R80). -/
def wordDat (b : Byte) : MicroWord := 0b0001#4 ++ b

/-- `RST l`, `0x200 | l` (R67, R80). -/
def wordRst (l : Bit) : MicroWord := 0b00100000000#11 ++ l

/-- `BL l`, `0x400 | l` (R67, R80). -/
def wordBl (l : Bit) : MicroWord := 0b01000000000#11 ++ l

/-- `DELAY ms`, `0x600 | ms` (R67, R80). -/
def wordDelay (ms : BitVec 9) : MicroWord := 0b011#3 ++ ms

/-- A byte list as the host hands it over. -/
def natsOf (bs : List Byte) : List Nat := bs.map BitVec.toNat

/-- The encoder: the selector and operands of a host operation (R71), the word of a micro-operation (R67), the whole
word of a named command (R77). -/
def encode (o : OpBytes) : Instr → RawInstr
  | .construct v w h l b => .host 1#4 [.variant v, .nat w, .nat h, .lines l, .bus b]
  | .initializeOp => .host 2#4 []
  | .writeFrame fb => .host 3#4 [.bytes (natsOf fb)]
  | .pack565 r g b => .host 4#4 [.nat r.toNat, .nat g.toNat, .nat b.toNat]
  | .writeCmd b => .micro (wordCmd b)
  | .writeData b => .micro (wordDat b)
  | .setRst l => .micro (wordRst l)
  | .setBl l => .micro (wordBl l)
  | .delay ms => .micro (wordDelay ms)
  | .cmdSlpout => .micro (wordCmd o.slpout)
  | .cmdDispon => .micro (wordCmd o.dispon)
  | .cmdCaset => .micro (wordCmd o.caset)
  | .cmdRaset => .micro (wordCmd o.raset)
  | .cmdRamwr => .micro (wordCmd o.ramwr)
  | .cmdMadctl => .micro (wordCmd o.madctl)
  | .cmdColmod => .micro (wordCmd o.colmod)
  | .cmdPorctrl => .micro (wordCmd o.porctrl)
  | .cmdGctrl => .micro (wordCmd o.gctrl)
  | .cmdVcoms => .micro (wordCmd o.vcoms)
  | .cmdLcmctrl => .micro (wordCmd o.lcmctrl)
  | .cmdPvgamctrl => .micro (wordCmd o.pvgamctrl)
  | .cmdNvgamctrl => .micro (wordCmd o.nvgamctrl)
  | .cmdInvon => .micro (wordCmd o.invon)
  | .cmdInvoff => .micro (wordCmd o.invoff)

/-! ## The opcode table's words -/

/-- The operands of a host operation with every bit of them zero: variant 0 (`ST7789`), a panel dimension whose 16-bit
end address `N - 1` (R21, R74) is 0, that is 1, the line and bus identifiers 0, the byte list of length 0, the channels 0.
[DESIGN CHOICE: the spec gives operands types (R72) and no bits.] -/
def zeroOperands (opid : BitVec 4) : List Operand :=
  if opid = 1#4 then [.variant .st7789, .nat 1, .nat 1, .lines ⟨0, 0, 0⟩, .bus ⟨0⟩]
  else if opid = 3#4 then [.bytes []]
  else if opid = 4#4 then [.nat 0, .nat 0, .nat 0]
  else []

/-- The raw instruction of a table word: a row of at most 8 bits is a `HOST` selector, whose operands are zero; a wider
row is a `MICRO12` word. A number that does not fit its format is none. -/
def rawOfTableWord (nbits w : Nat) : Option RawInstr :=
  if nbits ≤ 8 then
    if w < 16 then some (.host (BitVec.ofNat 4 w) (zeroOperands (BitVec.ofNat 4 w))) else none
  else
    if w < 4096 then some (.micro (BitVec.ofNat 12 w)) else none

/-- The instruction the decoder reads from a word of spec/opcode_table.json, under the default command bytes. -/
def decodeTableWord (nbits w : Nat) : Option Instr :=
  match rawOfTableWord nbits w with
  | none => none
  | some raw =>
    match decode OpBytes.default raw with
    | .ok i => some i
    | .error _ => none

end Sys2Proof
end

