-- ==== Sys2Proof/Machine/Params.lean ====
section
/-! DEFINITION. The values the spec gives the implementation parameters (R11): the delays, the gamma count, the
defaults, and the construction arguments the reset state is built from (the spec's own reference table R130 and
program P1 of 95_test_vectors.md). -/

namespace Sys2Proof.Machine

/-- `T_RST_LOW`, milliseconds (R104). -/
def tRstLow : BitVec 9 := 100#9

/-- `T_RST_HIGH`, milliseconds (R104). -/
def tRstHigh : BitVec 9 := 100#9

/-- `T_SLPOUT`, milliseconds (R104). -/
def tSlpout : BitVec 9 := 120#9

/-- `GAMMA_LEN`, 14 for both variants (R114; 90_conflicts.md C4). -/
def gammaLen : Nat := 14

/-- The largest panel dimension, whose end address fits 16 bits (R21). -/
def maxDim : Nat := 65536

/-- `COLMOD_16BPP`'s default: the bytes with `b[2:0] = 0b101` (R11, R117). [PRESUMED by the spec itself, 'from general
knowledge, not in source'; unsafe.] -/
def colmod16bppDefault : List Byte :=
  ((List.range 256).map (BitVec.ofNat 8)).filter (fun b => b.extractLsb' 0 3 == 0b101#3)

/-- `NN_MAP`'s default, `NN(d, S, D) = floor((2*d + 1) * S / (2*D))` (R153). -/
def nnDefault (d srcDim dstDim : Nat) : Nat := (2 * d + 1) * srcDim / (2 * dstDim)

/-- `REF_ST7789` (R130): illustrative, not the repository's table. -/
def refSt7789 : List RawEntry :=
  [⟨0x36, [0x00]⟩,
   ⟨0x3A, [0x55]⟩,
   ⟨0xB2, [0x0C, 0x0C, 0x00, 0x33, 0x33]⟩,
   ⟨0xB7, [0x35]⟩,
   ⟨0xBB, [0x19]⟩,
   ⟨0xC0, [0x2C]⟩,
   ⟨0xE0, [0xD0, 0x04, 0x0D, 0x11, 0x13, 0x2B, 0x3F, 0x54, 0x4C, 0x18, 0x0D, 0x0B, 0x1F, 0x23]⟩,
   ⟨0xE1, [0xD0, 0x04, 0x0C, 0x11, 0x13, 0x2C, 0x3F, 0x44, 0x51, 0x2F, 0x1F, 0x1F, 0x20, 0x23]⟩,
   ⟨0x21, []⟩]

/-- The ILI9341 table of 95_test_vectors.md section 2.4, its two gamma lists (of which the spec says '14 bytes') taken
from `REF_ST7789`. [DESIGN CHOICE: `INIT_TABLE(ILI9341)` is OPEN.] -/
def refIli9341 : List RawEntry :=
  [⟨0x36, [0x48]⟩,
   ⟨0x3A, [0x55]⟩,
   ⟨0xE0, [0xD0, 0x04, 0x0D, 0x11, 0x13, 0x2B, 0x3F, 0x54, 0x4C, 0x18, 0x0D, 0x0B, 0x1F, 0x23]⟩,
   ⟨0xE1, [0xD0, 0x04, 0x0C, 0x11, 0x13, 0x2C, 0x3F, 0x44, 0x51, 0x2F, 0x1F, 0x1F, 0x20, 0x23]⟩,
   ⟨0x20, []⟩]

/-- The parameters of the reset state. The spec's defaults where it gives one, else the values its test vectors use.
[DESIGN CHOICE; a statement quantifies over every value of the parameters.] -/
def defaultParams : Params where
  ops := OpBytes.default
  maxCols := ⟨none, none⟩
  maxRows := ⟨none, none⟩
  initTable := ⟨refSt7789, refIli9341⟩
  madctlOk := ⟨[0x00#8], [0x48#8]⟩
  colmod16bpp := colmod16bppDefault
  spiMode := ⟨.mode3, .mode0⟩
  spiHz := 24000000
  spiBitOrder := .msbFirst
  csPolicy := 0
  nnMap := []
  configCmds := ⟨none, none⟩

/-- A raw table entry as bytes. It is read only of entries that pass `T_BYTES` (R114). -/
def entryOf (e : RawEntry) : TableEntry where
  cmd := BitVec.ofNat 8 e.cmd
  params := e.params.map (BitVec.ofNat 8)

/-- A raw table as bytes. -/
def tableOf (t : List RawEntry) : List TableEntry := t.map entryOf

end Sys2Proof.Machine
end

