-- ==== Sys2Proof/Machine/State.lean ====
section
/-! DEFINITION. The state of the machine as plain data: the block (10_state.md), which exists only after a
successful `CONSTRUCT`, and the model's own fields that stand for what the host and the transport will do. -/

namespace Sys2Proof.Machine

/-- The level of a line: `UNKNOWN`, 0 or 1 (R27 to R29). -/
inductive Level where
  | unknown
  | low
  | high
deriving DecidableEq, Repr

/-- `PHASE`, the initialization state (R25). -/
inductive Phase where
  | uninit
  | resetting
  | configuredOff
  | active
  | initFailed
deriving DecidableEq, Repr

/-- `SEQ.OP`, the host operation in progress (R30). -/
inductive SeqOp where
  | none
  | initializeOp
  | writeFrame
deriving DecidableEq, Repr

/-- `SEQ`, the sequencer's program counter (R30): the operation, its list of `MICRO12` words, and the index of the
next one. -/
structure Seq where
  op   : SeqOp
  prog : List MicroWord
  k    : Nat
deriving DecidableEq, Repr

/-- `SEQ` while no host operation is in progress: `(NONE, [], 0)` (R30). -/
def Seq.idle : Seq := ⟨.none, [], 0⟩

/-- `STATUS.CODE` (R32, R179). -/
inductive StatusCode where
  | ok
  | transferError
  | acquisitionError
deriving DecidableEq, Repr

/-- `STATUS` (R32): the code, and the index of the failed micro-operation. -/
structure Status where
  code     : StatusCode
  failedAt : Nat
deriving DecidableEq, Repr

/-- The contract-fault reasons, the members of `FAULT` (R180). -/
inductive ContractFault where
  | initPhase
  | framePhase
  | frameSize
  | busyIssue
  | illegalMicroop
deriving DecidableEq, Repr

/-- A wire event (R15). -/
inductive WireEvent where
  | byte (dc : Bit) (b : Byte)
  | lost (dc : Bit) (b : Byte)
  | rst (l : Bit)
  | bl (l : Bit)
  | delay (ms : BitVec 9)
deriving DecidableEq, Repr

/-- An entry of `TRACE`: the event, tagged with the `SEQ.OP` that emitted it (R35, R164). -/
structure TraceEntry where
  op : SeqOp
  ev : WireEvent
deriving DecidableEq, Repr

/-- `CFG`, written only by `CONSTRUCT` (R20 to R24). -/
structure Cfg where
  variant   : Variant
  w         : Nat
  h         : Nat
  initTable : List TableEntry
  lines     : Lines
  bus       : Bus
deriving DecidableEq, Repr

/-- The block's state (10_state.md, R40). `BUSY` is a view of `seq` (R34), in Machine/Flags.lean. -/
structure Block where
  /-- `CFG` (R20). -/
  cfg : Cfg
  /-- `PHASE` (R25). -/
  phase : Phase
  /-- `DC` (R27). -/
  dc : Level
  /-- `RST` (R28). -/
  rst : Level
  /-- `BL` (R29). -/
  bl : Level
  /-- `SEQ` (R30). -/
  seq : Seq
  /-- `STATUS` (R32). -/
  status : Status
  /-- `FAULT`, the 5-bit set (R33, R180). -/
  faults : BitVec 5
  /-- `TRACE`, oldest event first (R35). -/
  trace : List TraceEntry
  /-- The frame buffer lent to the `WRITE_FRAME` in progress (R42, R43, R46, R52); empty outside one. -/
  frame : List Byte
  /-- The latch `PIX_IN` (R19, R75). -/
  pixIn : PixInWord
  /-- The latch `PIX_OUT` (R19). -/
  pixOut : Word16
  /-- The latch `BYTE_OUT` (R19). -/
  byteOut : WireWord
deriving DecidableEq, Repr

/-- The block a successful `CONSTRUCT` leaves (R40), the latches being whatever they are given. -/
def Block.fresh (cfg : Cfg) (pixIn : PixInWord) (pixOut : Word16) (byteOut : WireWord) : Block where
  cfg := cfg
  phase := .uninit
  dc := .unknown
  rst := .unknown
  bl := .unknown
  seq := Seq.idle
  status := ⟨.ok, 0⟩
  faults := 0#5
  trace := []
  frame := []
  pixIn := pixIn
  pixOut := pixOut
  byteOut := byteOut

/-- A source image of the host's `write_frame(image)` (R152): `sw * sh` pixels of three bytes, row-major. -/
structure Image where
  sw    : Nat
  sh    : Nat
  bytes : List Byte
deriving DecidableEq, Repr

/-- What the host calls: a host operation by its selector and operands (R71), or `write_frame` of an image, which is
`WRITE_FRAME` of the image resized (R152). -/
inductive HostCall where
  | op (opid : BitVec 4) (operands : List Operand)
  | image (img : Image)
deriving DecidableEq, Repr

/-- When the host issues a call: once the block is idle, as the one blocking host flow does (R34); or, as a second
flow would that breaks R189, after letting the sequencer take at most `n` steps more. -/
inductive HostFlow where
  | blocking
  | overlapping (n : Nat)
deriving DecidableEq, Repr

/-- A host request still to be issued. -/
structure HostRequest where
  flow : HostFlow
  call : HostCall
deriving DecidableEq, Repr

/-- What the host operation that returned last handed back (R41, R179, R155). -/
inductive Returned where
  | status (code : StatusCode) (failedAt : Nat)
  | word (w : Word16)
deriving DecidableEq, Repr

/-- The machine's state. -/
structure State where
  /-- The block; none before a successful `CONSTRUCT` and after a failed one (R40, R100). -/
  block : Option Block
  /-- A `CONSTRUCT` has failed to acquire a line or the bus: no later operation is defined (R100). -/
  acquisitionFailed : Bool
  /-- The implementation parameters (R11); no step changes them. -/
  params : Params
  /-- MODEL's own: the host's requests still to be issued, first one first. -/
  host : List HostRequest
  /-- MODEL's own: the answers the environment will give, first one first; past its end an answer is a free value. -/
  answers : List Answer
  /-- MODEL's own: how many free values and answers have been drawn. -/
  drawn : Nat
  /-- MODEL's own: what the last host operation that returned handed back, none before the first. -/
  ret : Option Returned
deriving DecidableEq, Repr

/-- Why the machine stops. -/
inductive Fault where
  /-- Raised by every step and every instruction in a state whose `FAULT` is not empty: the block takes no further
  step after a contract fault (R33, R184). Safe. -/
  | contractFaulted (faults : BitVec 5)
  /-- Raised by the step where `SEQ.K` is past the end of `SEQ.PROG`, which only a hand-made state holds: R83 enables no
  step there. Safe. -/
  | sequencerPastEnd (k : Nat)
deriving DecidableEq, Repr

/-- Why an input has no run in the model. -/
inductive Refusal where
  /-- Raised only by an arm of `exec` whose instruction has no meaning yet; no arm does. Safe. -/
  | notModelled (mnemonic : String)
  /-- Raised by every operation but `CONSTRUCT` where no block exists (R40), and by `CONSTRUCT` too once an acquisition
  has failed (R100: no later host operation is defined). Safe. -/
  | noBlock
  /-- Raised by `CONSTRUCT` for arguments or a table the spec refuses, its `CONFIG_INVALID` (R101). Safe. -/
  | configInvalid
  /-- Raised by a micro-operation where R83 does not enable the sequencer: no host operation in progress, or its list at
  an end. The step never runs one there. Safe. -/
  | microNotEnabled
  /-- Raised at the host boundary for a reserved `OPID` or an operand outside its type (R71, R72, R181). Safe. -/
  | undecoded (e : DecodeError)
  /-- Raised at the host boundary for a source image with no pixels (R152, R181). Safe. -/
  | emptyImage
  /-- Raised at the host boundary for a source image that is not `3 * SW * SH` bytes, an operand outside its type
  (R72, R152). Safe. -/
  | imageBytes
deriving DecidableEq, Repr

/-- The construction arguments of the reset state: program P1 of 95_test_vectors.md (`ST7789`, 240 by 240,
`REF_ST7789`), with every opaque identifier 0. [DESIGN CHOICE: R40 gives 'the construction arguments'.] -/
def resetCfg : Cfg where
  variant := .st7789
  w := 240
  h := 240
  initTable := tableOf refSt7789
  lines := ⟨0, 0, 0⟩
  bus := ⟨0⟩

/-- The machine right after reset. The block's reset is a successful `CONSTRUCT` (R198), so this is the state of R40;
the latches, unspecified there, hold 0 [DESIGN CHOICE], and nothing has been asked of the host or the transport. -/
def State.reset : State where
  block := some (Block.fresh resetCfg 0#24 0#16 0#9)
  acquisitionFailed := false
  params := defaultParams
  host := []
  answers := []
  drawn := 0
  ret := some (.status .ok 0)

end Sys2Proof.Machine
end

