-- ==== Sys2Proof/Machine/Flags.lean ====
section
/-! DEFINITION. Everything computed about the status of the block: the numbers of its enumerated registers, line
levels, `BUSY`, the fault bits, and the instants at which `INITIALIZE` changes `PHASE`. -/

namespace Sys2Proof.Machine

/-- The number of a `PHASE`; 5 to 7 are reserved and never written (R25). -/
def Phase.code : Phase → BitVec 3
  | .uninit        => 0#3
  | .resetting     => 1#3
  | .configuredOff => 2#3
  | .active        => 3#3
  | .initFailed    => 4#3

/-- The number of a `STATUS.CODE`; 3 to 15 are reserved and never written (R179). -/
def StatusCode.code : StatusCode → BitVec 4
  | .ok               => 0#4
  | .transferError    => 1#4
  | .acquisitionError => 2#4

/-- The `FAULT` set that holds one reason: its bit (R180). -/
def ContractFault.mask : ContractFault → BitVec 5
  | .initPhase      => 0b00001#5
  | .framePhase     => 0b00010#5
  | .frameSize      => 0b00100#5
  | .busyIssue      => 0b01000#5
  | .illegalMicroop => 0b10000#5

/-- Whether a reason is in `FAULT` (R33). -/
def Block.hasFault (b : Block) (f : ContractFault) : Bool := b.faults &&& f.mask == f.mask

/-- The level a bit drives a line to (R27 to R29). -/
def levelOf (l : Bit) : Level := if l = 0#1 then .low else .high

/-- `BUSY`: true exactly while `SEQ.OP` is not `NONE` (R34). -/
def Block.busy (b : Block) : Bool := b.seq.op != .none

/-- `S`, the number of stage-2 micro-operations of a table (R104). -/
def tableMicroOps : List TableEntry → Nat
  | [] => 0
  | e :: t => 1 + e.params.length + tableMicroOps t

/-- `PHASE` once `SEQ.K` has become `k`: `INITIALIZE` sets `RESETTING` at 4 (R106) and `CONFIGURED_OFF` at `4 + S`
(R108); nothing else changes it there (R26). -/
def Block.phaseAt (b : Block) (k : Nat) : Phase :=
  if b.seq.op = .initializeOp then
    if k = 4 + tableMicroOps b.cfg.initTable then .configuredOff
    else if k = 4 then .resetting
    else b.phase
  else b.phase

/-- `PHASE` after `complete(SEQ.OP)`: `ACTIVE` for `INITIALIZE` (R110), unchanged for `WRITE_FRAME` (R94). -/
def Block.phaseOnComplete (b : Block) : Phase :=
  if b.seq.op = .initializeOp then .active else b.phase

/-- `PHASE` after `on_abort(SEQ.OP)`: `INIT_FAILED` for `INITIALIZE` (R112), unchanged for `WRITE_FRAME` (R95). -/
def Block.phaseOnAbort (b : Block) : Phase :=
  if b.seq.op = .initializeOp then .initFailed else b.phase

end Sys2Proof.Machine
end

