-- ==== Sys2Proof/Machine/Operands.lean ====
section
/-! DEFINITION. The operand forms: byte order and bit fields, the packer, the window parameters, the pseudo-
instructions (R81), the micro-operation lists of `INITIALIZE` (R104) and `WRITE_FRAME` (R135), and the host-side
resize (R152, R153). -/

namespace Sys2Proof.Machine

/-! ## Byte order -/

/-- `p[15:8]`, the byte sent first (R50, R51). -/
def hiByte (p : Word16) : Byte := p.extractLsb' 8 8

/-- `p[7:0]`, the byte sent second (R50, R51). -/
def loByte (p : Word16) : Byte := p.extractLsb' 0 8

/-- The 16-bit value of two bytes, high byte first (R51). -/
def joinBytes (hi lo : Byte) : Word16 := hi ++ lo

/-! ## The packer -/

/-- `PIX_IN = (r, g, b)`, red in bits 23:16 (R75). -/
def pixInOf (r g b : Byte) : PixInWord := r ++ g ++ b

/-- `PACK565`: `((r >> 3) << 11) | ((g >> 2) << 5) | (b >> 3)` in 16 bits (R155). -/
def pack565 (r g b : Byte) : Word16 :=
  ((r.zeroExtend 16 >>> 3) <<< 11) ||| ((g.zeroExtend 16 >>> 2) <<< 5) ||| (b.zeroExtend 16 >>> 3)

/-- `PIX_IN[23:16]`, `PIX_IN[15:8]`, `PIX_IN[7:0]` packed: the packer's 24-bit input to its 16-bit output (R75, R155). -/
def packPixIn (p : PixInWord) : Word16 :=
  pack565 (p.extractLsb' 16 8) (p.extractLsb' 8 8) (p.extractLsb' 0 8)

/-! ## The window parameters -/

/-- `WINDOW4` of a dimension `n` (R74): start address 0, end address `n - 1`, each high byte first. -/
def window4 (n : Nat) : List Byte :=
  [0x00#8, 0x00#8, BitVec.ofNat 8 ((n - 1) >>> 8), BitVec.ofNat 8 (n - 1)]

/-! ## Pseudo-instructions (R81) -/

/-- `REG c, p_0, ..., p_(n-1)`: one command byte and its parameter bytes (R73, R115). -/
def regProg (c : Byte) (ps : List Byte) : List MicroWord := wordCmd c :: ps.map wordDat

/-- `WINDOW W, H` (R136, R138). -/
def windowProg (o : OpBytes) (w h : Nat) : List MicroWord :=
  regProg o.caset (window4 w) ++ regProg o.raset (window4 h)

/-- `PIXEL q`: the word's high byte, then its low byte (R141). -/
def pixelProg (q : Word16) : List MicroWord := [wordDat (hiByte q), wordDat (loByte q)]

/-- `HWRESET`: stage 1 (R105). -/
def hwresetProg : List MicroWord := [wordRst 0#1, wordDelay tRstLow, wordRst 1#1, wordDelay tRstHigh]

/-- `WAKE`: stage 3 (R109). -/
def wakeProg (o : OpBytes) : List MicroWord :=
  [wordCmd o.slpout, wordDelay tSlpout, wordCmd o.dispon, wordBl 1#1]

/-! ## The lists of the host operations -/

/-- Stage 2: every entry of the bring-up table, in order (R107). -/
def tableProg : List TableEntry → List MicroWord
  | [] => []
  | e :: t => regProg e.cmd e.params ++ tableProg t

/-- `InitProg(CFG)` (R104). -/
def initProg (o : OpBytes) (cfg : Cfg) : List MicroWord :=
  hwresetProg ++ tableProg cfg.initTable ++ wakeProg o

/-- The pixel stream of a frame buffer: its bytes three at a time, red, green, blue (R45), in offset order (R44, R140),
each pixel packed (R142) and sent high byte first (R141). -/
def streamProg : List Byte → List MicroWord
  | r :: g :: b :: fb => pixelProg (pack565 r g b) ++ streamProg fb
  | _ => []

/-- `FrameProg(CFG, fb)` (R135). -/
def frameProg (o : OpBytes) (cfg : Cfg) (fb : List Byte) : List MicroWord :=
  windowProg o cfg.w cfg.h ++ [wordCmd o.ramwr] ++ streamProg fb

/-- `FBRead(i)`: the byte at offset `i` of a frame buffer, none outside it (R52). -/
def fbRead (fb : List Byte) (i : Nat) : Option Byte := fb[i]?

/-- The number of micro-operations of `FrameProg` before its pixel stream (R135). -/
def windowOps : Nat := 11

/-- The pixel whose high byte is the micro-operation at index `k` of `FrameProg` (R135), as a `PIX_IN` word (R75); none for
every other index. -/
def pixelStartingAt (fb : List Byte) (k : Nat) : Option PixInWord :=
  if windowOps ≤ k ∧ (k - windowOps) % 2 = 0 then
    match fbRead fb (3 * ((k - windowOps) / 2)), fbRead fb (3 * ((k - windowOps) / 2) + 1),
      fbRead fb (3 * ((k - windowOps) / 2) + 2) with
    | some r, some g, some b => some (pixInOf r g b)
    | _, _, _ => none
  else none

/-- The length of a frame buffer of the panel, `3 * W * H` bytes (R43). -/
def frameBytes (cfg : Cfg) : Nat := 3 * cfg.w * cfg.h

/-! ## The host-side resize (R152, R153) -/

/-- The index map `NN_MAP`: the parameter's own value where it has one, kept below the source dimension, else the
default (R153). -/
def nnIndex (p : Params) (d srcDim dstDim : Nat) : Nat :=
  match p.nnMap.lookup (d, srcDim, dstDim) with
  | some i => min i (srcDim - 1)
  | none => nnDefault d srcDim dstDim

/-- The three bytes of a source pixel, red, green, blue. -/
def Image.pixel (img : Image) (x y : Nat) : List Byte := (img.bytes.drop (3 * (y * img.sw + x))).take 3

/-- `Resize(image, W, H)`: the frame buffer whose pixel `(x, y)` is the source pixel the index map names (R153). -/
def resize (p : Params) (img : Image) (w h : Nat) : List Byte :=
  (List.range h).flatMap fun y =>
    (List.range w).flatMap fun x => img.pixel (nnIndex p x img.sw w) (nnIndex p y img.sh h)

end Sys2Proof.Machine
end

