-- ==== Sys2Proof/Machine/Table.lean ====
section
/-! DEFINITION. The checks `CONSTRUCT` makes before it acquires anything: the panel's size (R21) and the named checks
of `TableOK` (R114). -/

namespace Sys2Proof.Machine

/-- `T_BYTES`: every command and every parameter is a byte. -/
def tBytes (t : List RawEntry) : Bool :=
  t.all fun e => decide (e.cmd < 256) && e.params.all fun p => decide (p < 256)

/-- `T_NOT_OWNED`: no entry holds a command the sequencer sends itself. -/
def tNotOwned (o : OpBytes) (t : List TableEntry) : Bool :=
  t.all fun e => !([o.slpout, o.dispon, o.caset, o.raset, o.ramwr].contains e.cmd)

/-- `T_GAMMA`: a gamma entry has exactly `GAMMA_LEN` parameters. -/
def tGamma (o : OpBytes) (t : List TableEntry) : Bool :=
  t.all fun e => !([o.pvgamctrl, o.nvgamctrl].contains e.cmd) || e.params.length == gammaLen

/-- Whether the table has an entry of a command. -/
def hasCmd (t : List TableEntry) (c : Byte) : Bool := t.any fun e => e.cmd == c

/-- Whether an entry has exactly one parameter, and that one is in a set of bytes. -/
def oneParamIn (ok : List Byte) (e : TableEntry) : Bool :=
  match e.params with
  | [b] => ok.contains b
  | _ => false

/-- `T_COLMOD`: at least one `COLMOD` entry, and each selects 16 bits per pixel. -/
def tColmod (p : Params) (t : List TableEntry) : Bool :=
  hasCmd t p.ops.colmod && t.all fun e => !(e.cmd == p.ops.colmod) || oneParamIn p.colmod16bpp e

/-- `T_MADCTL`: at least one `MADCTL` entry, and each is `MADCTL_OK`. -/
def tMadctl (p : Params) (v : Variant) (t : List TableEntry) : Bool :=
  hasCmd t p.ops.madctl && t.all fun e => !(e.cmd == p.ops.madctl) || oneParamIn (p.madctlOk.get v) e

/-- The commands `T_FULL` asks for one entry each of. -/
def fullCmds (o : OpBytes) : Variant → List Byte
  | .st7789 => [o.madctl, o.colmod, o.porctrl, o.gctrl, o.vcoms, o.lcmctrl, o.pvgamctrl, o.nvgamctrl]
  | .ili9341 => [o.madctl, o.colmod, o.pvgamctrl, o.nvgamctrl]

/-- `T_FULL`: the variant's registers are all there, and an inversion mode. -/
def tFull (o : OpBytes) (v : Variant) (t : List TableEntry) : Bool :=
  (fullCmds o v).all (hasCmd t) && (hasCmd t o.invon || hasCmd t o.invoff)

/-- `TableOK(T, v)` (R114). -/
def tableOk (p : Params) (v : Variant) (raw : List RawEntry) : Bool :=
  tBytes raw && tNotOwned p.ops (tableOf raw) && tGamma p.ops (tableOf raw) && tColmod p (tableOf raw) &&
    tMadctl p v (tableOf raw) && tFull p.ops v (tableOf raw)

/-- A dimension is within a bound, where one is given (R21). -/
def withinMax (n : Nat) : Option Nat → Bool
  | none => true
  | some m => decide (n ≤ m)

/-- The width and height are legal for the variant (R21, R99). -/
def sizeOk (p : Params) (v : Variant) (w h : Nat) : Bool :=
  decide (1 ≤ w) && decide (w ≤ maxDim) && decide (1 ≤ h) && decide (h ≤ maxDim) &&
    withinMax w (p.maxCols.get v) && withinMax h (p.maxRows.get v)

/-- The checks of `CONSTRUCT`, whose failure is `CONFIG_INVALID` (R99, R101). -/
def configOk (p : Params) (v : Variant) (w h : Nat) : Bool :=
  sizeOk p v w h && tableOk p v (p.initTable.get v)

end Sys2Proof.Machine
end

