-- ==== Sys2Proof/Machine/Ops.lean ====
section
/-! DEFINITION. The named operations on the state: the updates of its fields, the environment's answers, emitting and
advancing, completion (R94), abort (R95), taking a contract fault (R180), and the checks every host operation (R184)
and every micro-operation (R83) begins with. -/

namespace Sys2Proof.Machine

/-! ## Updates of the block -/

/-- `DC <- l` (R27). -/
def Block.setDc (b : Block) (l : Level) : Block := { b with dc := l }

/-- `RST <- l` (R28). -/
def Block.setRst (b : Block) (l : Level) : Block := { b with rst := l }

/-- `BL <- l` (R29). -/
def Block.setBl (b : Block) (l : Level) : Block := { b with bl := l }

/-- `PHASE <- p` (R25). -/
def Block.setPhase (b : Block) (p : Phase) : Block := { b with phase := p }

/-- `SEQ <- q` (R30). -/
def Block.setSeq (b : Block) (q : Seq) : Block := { b with seq := q }

/-- `STATUS <- t` (R32). -/
def Block.setStatus (b : Block) (t : Status) : Block := { b with status := t }

/-- Adds reasons to `FAULT`; none is ever removed (R33). -/
def Block.addFaults (b : Block) (m : BitVec 5) : Block := { b with faults := b.faults ||| m }

/-- `Emit(e)`: appends to `TRACE`, tagged with `SEQ.OP` (R14, R35, R164). -/
def Block.emit (b : Block) (e : WireEvent) : Block := { b with trace := b.trace ++ [⟨b.seq.op, e⟩] }

/-- `BYTE_OUT <- w` (R86). -/
def Block.setByteOut (b : Block) (w : WireWord) : Block := { b with byteOut := w }

/-- `PIX_OUT <- p` (R155). -/
def Block.setPixOut (b : Block) (p : Word16) : Block := { b with pixOut := p }

/-- `PIX_IN <- p` (R19). -/
def Block.setPixIn (b : Block) (p : PixInWord) : Block := { b with pixIn := p }

/-- The frame buffer lent to the block (R46). -/
def Block.setFrame (b : Block) (fb : List Byte) : Block := { b with frame := fb }

/-- Packs a pixel: `PIX_IN` holds it and `PIX_OUT` its packed word (R19, R75, R155). -/
def Block.packPixel (b : Block) (p : PixInWord) : Block := (b.setPixIn p).setPixOut (packPixIn p)

/-- The packer's work before the micro-operation at `SEQ.K`: where that is the high byte of a pixel of the `WRITE_FRAME` in
progress, the pixel is read from the frame buffer and packed (R19, R142, R160). [DESIGN CHOICE of the moment: R142 says that
it cannot be observed; log entry 5.] -/
def Block.pack (b : Block) : Block :=
  if b.seq.op = .writeFrame then
    match pixelStartingAt b.frame b.seq.k with
    | some p => b.packPixel p
    | none => b
  else b

/-- `SEQ.K <- SEQ.K + 1` (R31), with the change of `PHASE` that goes with it (R106, R108). -/
def Block.advance (b : Block) : Block :=
  (b.setPhase (b.phaseAt (b.seq.k + 1))).setSeq { b.seq with k := b.seq.k + 1 }

/-- The pixel latches at unspecified values: the `n`-th free ones (R19). -/
def Block.freePixLatches (b : Block) (n : Nat) : Block :=
  (b.setPixIn (Config.freePixIn n)).setPixOut (Config.freePixOut n)

/-- All three latches at unspecified values, as between operations (R19). -/
def Block.freeLatches (b : Block) (n : Nat) : Block :=
  (b.freePixLatches n).setByteOut (Config.freeByteOut n)

/-! ## Updates of the state -/

/-- Puts a block in place. -/
def State.setBlock (s : State) (b : Block) : State := { s with block := some b }

/-- No block exists (R100). -/
def State.dropBlock (s : State) : State := { s with block := none }

/-- Whether a `CONSTRUCT` has failed to acquire a line or the bus (R100). -/
def State.setAcquisitionFailed (s : State) (f : Bool) : State := { s with acquisitionFailed := f }

/-- What the host operation that returns hands back. -/
def State.setRet (s : State) (r : Returned) : State := { s with ret := some r }

/-- The host's requests still to be issued. -/
def State.setHost (s : State) (rs : List HostRequest) : State := { s with host := rs }

/-- One free value more has been drawn. -/
def State.countDraw (s : State) : State := { s with drawn := s.drawn + 1 }

/-- The environment's next answer has been used up. -/
def State.dropAnswer (s : State) : State := { s with answers := s.answers.tail }

/-! ## The environment's answers (R37, R84, R99) -/

/-- The answer to the next byte or acquisition: the scripted one, else a free value. -/
def State.nextAnswer (s : State) : Answer :=
  match s.answers with
  | a :: _ => a
  | [] => Config.freeAnswer s.drawn

/-- The state once that answer has been given. -/
def State.afterAnswer (s : State) : State := s.dropAnswer.countDraw

/-! ## The end of a host operation -/

/-- A host operation returns to the host with a status (R94, R95): `PHASE`, `STATUS` and `SEQ` as said, the frame buffer
given back (R46), and the latches unspecified from here on (R19). -/
def returnToHost (s : State) (b : Block) (p : Phase) (t : Status) : State :=
  ((s.setBlock (((((b.setPhase p).setStatus t).setSeq Seq.idle).setFrame []).freeLatches s.drawn)).setRet
    (.status t.code t.failedAt)).countDraw

/-- The completion step (R94). -/
def complete (s : State) (b : Block) : State := returnToHost s b b.phaseOnComplete ⟨.ok, 0⟩

/-- TAKING THE EXCEPTION: `raise TRANSFER_ERROR(SEQ.K)`, the abort of the host operation (R95, R185). It saves the index
in `STATUS` and changes `PHASE` as the operation's abort rule says; the return from it is the host's issue of the
whole operation again (R186). -/
def abort (s : State) (b : Block) : State := returnToHost s b b.phaseOnAbort ⟨.transferError, b.seq.k⟩

/-- TAKING THE EXCEPTION: `fault F`, a contract fault (R180). It adds the reason to `FAULT`, emits nothing and changes
nothing else; nothing returns from it (R33, R187). -/
def takeContractFault (f : ContractFault) (s : State) (b : Block) : State := s.setBlock (b.addFaults f.mask)

/-! ## What every operation begins with -/

/-- The checks of a host operation at issue, on a block that exists, in the order of R184: a block with a fault takes no
step; a busy one takes the fault `BUSY_ISSUE` (R189); else the operation `f` starts. -/
def issueOn (s : State) (b : Block) (f : State → Block → Host.Outcome State Fault Refusal) :
    Host.Outcome State Fault Refusal :=
  if b.faults = 0#5 then
    if b.busy then .next (takeContractFault .busyIssue s b) else f s b
  else .fault (.contractFaulted b.faults)

/-- A host operation of a block: refused where none exists (R40, R100). -/
def hostOp (s : State) (f : State → Block → Host.Outcome State Fault Refusal) : Host.Outcome State Fault Refusal :=
  match s.block with
  | none => .refused .noBlock
  | some b => issueOn s b f

/-- Whether R83 enables a micro-operation: a host operation is in progress and its list is not at its end. -/
def Block.microEnabled (b : Block) : Bool := b.busy && decide (b.seq.k < b.seq.prog.length)

/-- A micro-operation, run where R83 enables it. -/
def microOp (s : State) (f : State → Block → State) : Host.Outcome State Fault Refusal :=
  match s.block with
  | none => .refused .noBlock
  | some b =>
    if b.faults = 0#5 then
      if b.microEnabled then .next (f s b) else .refused .microNotEnabled
    else .fault (.contractFaulted b.faults)

/-! ## The wire -/

/-- The block with a byte ready on the wire: the data/command line at its level, `BYTE_OUT` the wire word (R86, R87). -/
def Block.present (b : Block) (dc : Bit) (v : Byte) : Block :=
  (b.setDc (levelOf dc)).setByteOut (wireWord dc v)

/-- Sends a byte at a data/command level (R86, R87): `Byte` and the next micro-operation where the transport answers
`OK`; `Lost` and the abort where it answers `FAIL` (R85). -/
def sendByte (dc : Bit) (v : Byte) (s : State) (b : Block) : State :=
  match s.nextAnswer with
  | .ok => s.afterAnswer.setBlock ((b.present dc v).emit (.byte dc v)).advance
  | .fail => abort s.afterAnswer ((b.present dc v).emit (.lost dc v))

/-- Sends a command byte, the meaning `WRITE_CMD` and every named command share (R86). -/
def sendCmd (v : Byte) (s : State) : Host.Outcome State Fault Refusal := microOp s (sendByte 0#1 v)

/-! ## Construction -/

/-- Asks for `n` acquisitions one after the other, stopping at the first that fails: whether all succeeded, and the state
after (R99, R100). -/
def acquire : Nat → State → Bool × State
  | 0, s => (true, s)
  | n + 1, s =>
    match s.nextAnswer with
    | .ok => acquire n s.afterAnswer
    | .fail => (false, s.afterAnswer)

/-- Acquires the three lines and the bus, in that order, and leaves the new block of R40, its latches unspecified, or no
block where an acquisition fails, after which no operation is defined (R99, R100). -/
def construct (v : Variant) (w h : Nat) (lines : Lines) (bus : Bus) (s : State) : State :=
  match acquire 4 s with
  | (true, t) =>
    ((t.setBlock (Block.fresh ⟨v, w, h, tableOf (s.params.initTable.get v), lines, bus⟩
      (Config.freePixIn t.drawn) (Config.freePixOut t.drawn) (Config.freeByteOut t.drawn))).setRet
        (.status .ok 0)).countDraw.setAcquisitionFailed false
  | (false, t) => (t.dropBlock.setRet (.status .acquisitionError 0)).setAcquisitionFailed true

/-- `CONSTRUCT` past the checks of issue: `CONFIG_INVALID`, or the acquisitions (R99). -/
def constructChecked (v : Variant) (w h : Nat) (lines : Lines) (bus : Bus) (s : State) :
    Host.Outcome State Fault Refusal :=
  if configOk s.params v w h then .next (construct v w h lines bus s) else .refused .configInvalid

end Sys2Proof.Machine
end

