-- ==== Sys2Proof/Machine/HostOps.lean ====
section
/-! DEFINITION. The meanings of the four host operations (R71). -/

namespace Sys2Proof.Machine

/-- `CONSTRUCT variant, W, H, lines, bus` (R99). Where no block exists it is the first construction, refused like every
operation once an acquisition has failed (R100); where one does, it is a host operation like any other (R184), issued by a
new process that starts again from `CONSTRUCT` (R200). [DEDUCED: log entry 10.] -/
def execConstruct (v : Variant) (w h : Nat) (lines : Lines) (bus : Bus) (s : State) :
    Host.Outcome State Fault Refusal :=
  match s.block with
  | none => if s.acquisitionFailed then .refused .noBlock else constructChecked v w h lines bus s
  | some b => issueOn s b fun s _ => constructChecked v w h lines bus s

/-- `INITIALIZE` (R102): the fault `INIT_PHASE` outside `UNINIT` and `INIT_FAILED` (R103), else the sequencer starts on
`InitProg` (R104). -/
def execInitialize (s : State) : Host.Outcome State Fault Refusal :=
  hostOp s fun s b =>
    if b.phase = .uninit ∨ b.phase = .initFailed then
      .next (s.setBlock (b.setSeq ⟨.initializeOp, initProg s.params.ops b.cfg, 0⟩))
    else .next (takeContractFault .initPhase s b)

/-- `WRITE_FRAME fb` (R132): the fault `FRAME_PHASE` outside `ACTIVE` (R133), then the fault `FRAME_SIZE` of a wrong
length (R134), else the frame buffer is lent to the block (R46) and the sequencer starts on `FrameProg` (R135). What the
packer's latches hold is unspecified until the first pixel is packed (R19). -/
def execWriteFrame (fb : List Byte) (s : State) : Host.Outcome State Fault Refusal :=
  hostOp s fun s b =>
    if b.phase = .active then
      if fb.length = frameBytes b.cfg then
        .next (s.setBlock (((b.setSeq ⟨.writeFrame, frameProg s.params.ops b.cfg fb, 0⟩).setFrame fb).freePixLatches
          s.drawn)).countDraw
      else .next (takeContractFault .frameSize s b)
    else .next (takeContractFault .framePhase s b)

/-- `PACK565 r, g, b` (R155, R161): returns the packed word and writes only the `PIX_OUT` latch. -/
def execPack565 (r g b : Byte) (s : State) : Host.Outcome State Fault Refusal :=
  hostOp s fun s blk => .next ((s.setBlock (blk.setPixOut (pack565 r g b))).setRet (.word (pack565 r g b)))

end Sys2Proof.Machine
end

