-- ==== Sys2Proof/Machine/PanelCmds.lean ====
section
/-! DEFINITION. The meanings of the fifteen named panel commands: each is `WRITE_CMD` with its command byte fixed
(R82, R115). What the panel does with the byte is the observation's matter, in Machine/Panel.lean. -/

namespace Sys2Proof.Machine

/-- `CMD SLPOUT` (sleep out, R126). -/
def execCmdSlpout (s : State) : Host.Outcome State Fault Refusal := sendCmd s.params.ops.slpout s

/-- `CMD DISPON` (display on, R127). -/
def execCmdDispon (s : State) : Host.Outcome State Fault Refusal := sendCmd s.params.ops.dispon s

/-- `CMD CASET` (column address set, R136). -/
def execCmdCaset (s : State) : Host.Outcome State Fault Refusal := sendCmd s.params.ops.caset s

/-- `CMD RASET` (row address set, R138). -/
def execCmdRaset (s : State) : Host.Outcome State Fault Refusal := sendCmd s.params.ops.raset s

/-- `CMD RAMWR` (memory write, R139). -/
def execCmdRamwr (s : State) : Host.Outcome State Fault Refusal := sendCmd s.params.ops.ramwr s

/-- `CMD MADCTL` (memory access control, R116). -/
def execCmdMadctl (s : State) : Host.Outcome State Fault Refusal := sendCmd s.params.ops.madctl s

/-- `CMD COLMOD` (interface pixel format, R117). -/
def execCmdColmod (s : State) : Host.Outcome State Fault Refusal := sendCmd s.params.ops.colmod s

/-- `CMD PORCTRL` (porch timing, R118). -/
def execCmdPorctrl (s : State) : Host.Outcome State Fault Refusal := sendCmd s.params.ops.porctrl s

/-- `CMD GCTRL` (gate control, R119). -/
def execCmdGctrl (s : State) : Host.Outcome State Fault Refusal := sendCmd s.params.ops.gctrl s

/-- `CMD VCOMS` (VCOM setting, R120). -/
def execCmdVcoms (s : State) : Host.Outcome State Fault Refusal := sendCmd s.params.ops.vcoms s

/-- `CMD LCMCTRL` (LCM control, R121). -/
def execCmdLcmctrl (s : State) : Host.Outcome State Fault Refusal := sendCmd s.params.ops.lcmctrl s

/-- `CMD PVGAMCTRL` (positive gamma curve, R122). -/
def execCmdPvgamctrl (s : State) : Host.Outcome State Fault Refusal := sendCmd s.params.ops.pvgamctrl s

/-- `CMD NVGAMCTRL` (negative gamma curve, R123). -/
def execCmdNvgamctrl (s : State) : Host.Outcome State Fault Refusal := sendCmd s.params.ops.nvgamctrl s

/-- `CMD INVON` (inversion on, R124). -/
def execCmdInvon (s : State) : Host.Outcome State Fault Refusal := sendCmd s.params.ops.invon s

/-- `CMD INVOFF` (inversion off, R124). -/
def execCmdInvoff (s : State) : Host.Outcome State Fault Refusal := sendCmd s.params.ops.invoff s

end Sys2Proof.Machine
end

