-- ==== Sys2Proof/Machine/Wire.lean ====
section
/-! DEFINITION. The meanings of the five micro-operations (41_wire_primitives.md). -/

namespace Sys2Proof.Machine

/-- `WRITE_CMD b` (R86). -/
def execWriteCmd (v : Byte) (s : State) : Host.Outcome State Fault Refusal := sendCmd v s

/-- `WRITE_DATA b` (R87). -/
def execWriteData (v : Byte) (s : State) : Host.Outcome State Fault Refusal := microOp s (sendByte 1#1 v)

/-- `SET_RST l` (R89); it never fails (R91). -/
def execSetRst (l : Bit) (s : State) : Host.Outcome State Fault Refusal :=
  microOp s fun s b => s.setBlock ((b.setRst (levelOf l)).emit (.rst l)).advance

/-- `SET_BL l` (R90); it never fails (R91). -/
def execSetBl (l : Bit) (s : State) : Host.Outcome State Fault Refusal :=
  microOp s fun s b => s.setBlock ((b.setBl (levelOf l)).emit (.bl l)).advance

/-- `DELAY ms` (R93): the wait is recorded as an event whose `ms` is a lower bound (R92); it never fails (R91). -/
def execDelay (ms : BitVec 9) (s : State) : Host.Outcome State Fault Refusal :=
  microOp s fun s b => s.setBlock (b.emit (.delay ms)).advance

end Sys2Proof.Machine
end

