-- ==== Sys2Proof/Machine/Dispatch.lean ====
section
/-! DEFINITION. The dispatch: one arm per constructor of Instr, each one call of its meaning. -/

namespace Sys2Proof.Machine

def exec (i : Instr) (s : State) : Host.Outcome State Fault Refusal :=
  match i with
  | .construct v w h lines bus => Sys2Proof.Machine.execConstruct v w h lines bus s
  | .initializeOp => Sys2Proof.Machine.execInitialize s
  | .writeFrame fb => Sys2Proof.Machine.execWriteFrame fb s
  | .pack565 r g b => Sys2Proof.Machine.execPack565 r g b s
  | .writeCmd b => Sys2Proof.Machine.execWriteCmd b s
  | .writeData b => Sys2Proof.Machine.execWriteData b s
  | .setRst l => Sys2Proof.Machine.execSetRst l s
  | .setBl l => Sys2Proof.Machine.execSetBl l s
  | .delay ms => Sys2Proof.Machine.execDelay ms s
  | .cmdSlpout => Sys2Proof.Machine.execCmdSlpout s
  | .cmdDispon => Sys2Proof.Machine.execCmdDispon s
  | .cmdCaset => Sys2Proof.Machine.execCmdCaset s
  | .cmdRaset => Sys2Proof.Machine.execCmdRaset s
  | .cmdRamwr => Sys2Proof.Machine.execCmdRamwr s
  | .cmdMadctl => Sys2Proof.Machine.execCmdMadctl s
  | .cmdColmod => Sys2Proof.Machine.execCmdColmod s
  | .cmdPorctrl => Sys2Proof.Machine.execCmdPorctrl s
  | .cmdGctrl => Sys2Proof.Machine.execCmdGctrl s
  | .cmdVcoms => Sys2Proof.Machine.execCmdVcoms s
  | .cmdLcmctrl => Sys2Proof.Machine.execCmdLcmctrl s
  | .cmdPvgamctrl => Sys2Proof.Machine.execCmdPvgamctrl s
  | .cmdNvgamctrl => Sys2Proof.Machine.execCmdNvgamctrl s
  | .cmdInvon => Sys2Proof.Machine.execCmdInvon s
  | .cmdInvoff => Sys2Proof.Machine.execCmdInvoff s

end Sys2Proof.Machine
end

