-- ==== Sys2Proof/Machine/Fetch.lean ====
section
/-! DEFINITION. Where the next instruction comes from: the host's next request while the block is idle (R189), the word
`SEQ.PROG[SEQ.K]` while an operation is in progress (R83); and the steps that run no instruction: completion (R94), an
illegal word (R97), and a block that waits for its host. -/

namespace Sys2Proof.Machine

/-- What a step does. -/
inductive Fetched where
  /-- Runs an instruction, in a state from which its request has been taken. -/
  | run (i : Instr) (s : State)
  /-- Goes on without running an instruction. -/
  | moved (s : State)
  /-- Stops. -/
  | stopped (f : Fault)
  /-- Has no run in the model. -/
  | refused (r : Refusal)
deriving DecidableEq, Repr

/-- `write_frame(image)` of the host: `WRITE_FRAME` of the image resized to the panel (R152). Where no block exists there
is no panel size to resize to, and that refusal comes before those of the image's shape; on a busy block the shape comes
before `BUSY_ISSUE`; on a faulted one the step stops before it looks at the host. [DESIGN CHOICE: log entry 21.] -/
def decodeImage (s : State) (img : Image) : Except Refusal Instr :=
  match s.block with
  | none => .error .noBlock
  | some b =>
    if img.sw = 0 ∨ img.sh = 0 then .error .emptyImage
    else if img.bytes.length = 3 * img.sw * img.sh then .ok (.writeFrame (resize s.params img b.cfg.w b.cfg.h))
    else .error .imageBytes

/-- The instruction of a host call, or its refusal at the host boundary (R72, R181). -/
def decodeCall (s : State) : HostCall → Except Refusal Instr
  | .op opid operands =>
    match decodeHost opid operands with
    | .ok i => .ok i
    | .error e => .error (.undecoded e)
  | .image img => decodeImage s img

/-- The host's next request is issued, and taken from the list; with none left, the machine waits as it is, with an
idle block and with none at all (before a `CONSTRUCT`, and after a failed one, where D28 of 92_eei_decisions.md says that no
run continues). [DESIGN CHOICE: log entry 9.] -/
def fetchHost (s : State) : Fetched :=
  match s.host with
  | [] => .moved s
  | r :: rest =>
    match decodeCall s r.call with
    | .ok i => .run i (s.setHost rest)
    | .error e => .refused e

/-- Whether a second host flow issues now, without waiting for the block (R189). -/
def State.overlapDue (s : State) : Bool :=
  match s.host with
  | r :: _ => r.flow == .overlapping 0
  | [] => false

/-- The host's requests once the sequencer has taken a step: one fewer to let pass for a second flow. -/
def tickRequests : List HostRequest → List HostRequest
  | ⟨.overlapping (n + 1), c⟩ :: rest => ⟨.overlapping n, c⟩ :: rest
  | rs => rs

/-- The state once a second host flow has let one step of the sequencer pass. -/
def State.tickHost (s : State) : State := s.setHost (tickRequests s.host)

/-- The sequencer's step (R83): the packer's work, and then the word at `SEQ.K`, refused as `ILLEGAL_MICROOP` where it decodes to nothing (R97), or
the completion step at the list's end (R94). -/
def fetchSeq (s : State) (b : Block) : Fetched :=
  match b.seq.prog[b.seq.k]? with
  | some u =>
    match decodeMicro s.params.ops u with
    | .ok i => .run i (s.setBlock b.pack)
    | .error _ => .moved (takeContractFault .illegalMicroop s b)
  | none =>
    if b.seq.k = b.seq.prog.length then .moved (complete s b) else .stopped (.sequencerPastEnd b.seq.k)

/-- What the machine does next (R83, R184). A faulted block takes no step, whatever its host asks (R33). -/
def fetch (s : State) : Fetched :=
  match s.block with
  | none => fetchHost s
  | some b =>
    if b.faults = 0#5 then
      if b.busy then
        if s.overlapDue then fetchHost s else fetchSeq s.tickHost b
      else fetchHost s
    else .stopped (.contractFaulted b.faults)

/-- The raw instruction that stands for a number outside its format: a reserved selector or an illegal word. -/
def illegalRaw (nbits : Nat) : RawInstr := if nbits ≤ 8 then .host 0#4 [] else .micro 0x800#12

/-- Places a raw instruction where the next step fetches: a host operation as the host's next request to an idle block;
a word as the one-word list of an `INITIALIZE` in progress, with no request of the host waiting. -/
def placeRaw (s : State) : RawInstr → State
  | .host opid operands =>
    let t := s.setHost (⟨.blocking, .op opid operands⟩ :: s.host)
    match s.block with
    | none => t
    | some b => t.setBlock (b.setSeq Seq.idle)
  | .micro u =>
    match s.block with
    | none => s
    | some b => (s.setHost []).setBlock (b.setSeq ⟨.initializeOp, [u], 0⟩)

end Sys2Proof.Machine
end

