-- ==== Sys2Proof/Machine/Step.lean ====
section
/-! DEFINITION. One step of the machine, and the placing of a table word where it fetches. -/

namespace Sys2Proof.Machine

/-- One step: an instruction of the host or of the sequencer, or one of the steps that run none (Machine/Fetch.lean). -/
def step (s : State) : Host.Outcome State Fault Refusal :=
  match fetch s with
  | .run i t => exec i t
  | .moved t => .next t
  | .stopped f => .fault f
  | .refused r => .refused r

/-- The state with a word of spec/opcode_table.json where `step` fetches its next instruction. -/
def State.withFetchWord (s : State) (nbits w : Nat) : State :=
  match rawOfTableWord nbits w with
  | some raw => placeRaw s raw
  | none => placeRaw s (illegalRaw nbits)

end Sys2Proof.Machine
end

