-- ==== Sys2Proof/Machine/Cells.lean ====
section
/-! DEFINITION. A map from natural keys kept as plain data in one canonical form: pairs in strictly rising order of
their keys. An unlisted key has no known value: it is `UNKNOWN`. The panel's frame memory and its configuration registers are
kept so (R165); the block itself has no memory (R42). -/

namespace Sys2Proof.Machine

/-- A map from natural keys to values. -/
abbrev Cells (α : Type) := List (Nat × α)

/-- The canonical form: keys strictly rising. -/
def Cells.wf {α : Type} : Cells α → Bool
  | [] => true
  | [_] => true
  | c :: d :: m => decide (c.1 < d.1) && Cells.wf (d :: m)

/-- What a key reads as; none is `UNKNOWN`. -/
def Cells.read {α : Type} : Cells α → Nat → Option α
  | [], _ => none
  | c :: m, k => if k = c.1 then some c.2 else Cells.read m k

/-- Writes a key. -/
def Cells.write {α : Type} : Cells α → Nat → α → Cells α
  | [], k, v => [(k, v)]
  | c :: m, k, v =>
    if k < c.1 then (k, v) :: c :: m
    else if k = c.1 then (k, v) :: m
    else c :: Cells.write m k v

/-- Makes a key `UNKNOWN`: it is no longer listed. -/
def Cells.forget {α : Type} : Cells α → Nat → Cells α
  | [], _ => []
  | c :: m, k => if k = c.1 then m else c :: Cells.forget m k

/-- The panel's frame memory `GRAM` (R49, R165): 16-bit words by column and row. -/
abbrev Memory := Cells Word16

/-- The canonical form of the frame memory. -/
def Memory.wf (m : Memory) : Bool := Cells.wf m

/-- The key of a column and a row, each of 16 bits (R49). -/
def gramKey (x y : Nat) : Nat := y * 65536 + x

end Sys2Proof.Machine
end

