-- ==== Sys2Proof/Machine/Panel.lean ====
section
/-! DEFINITION. The panel receiver (45_panel_receiver.md): the observation model, a deterministic function of `TRACE`
folded event by event (R164). It is no state of the block and no rule of the block reads it, so it is computed from the
trace and not stored. `UNKNOWN` is `none` (an unlisted key in `REGS` and `GRAM`). -/

namespace Sys2Proof.Machine

/-- `SLEEP` (R165). -/
inductive SleepState where
  | sleepIn
  | sleepOut
deriving DecidableEq, Repr

/-- `DISP` and `INV` (R165). -/
inductive OnOff where
  | off
  | on
deriving DecidableEq, Repr

/-- `MODE` (R165). -/
inductive PanelMode where
  | idle
  | params (c : Byte) (l : List Byte)
  | stream (hi : Option Byte)
deriving DecidableEq, Repr

/-- The receiver's state (R165) and what it tracks of the lines and of time (R164, R167, R170). -/
structure Panel where
  sleep  : Option SleepState
  disp   : Option OnOff
  colmod : Option Byte
  madctl : Option Byte
  inv    : Option OnOff
  /-- `REGS`, by command byte. -/
  regs   : Cells (List Byte)
  xs     : Option Word16
  xe     : Option Word16
  ys     : Option Word16
  ye     : Option Word16
  px     : Option Word16
  py     : Option Word16
  mode   : Option PanelMode
  /-- `GRAM`, by `gramKey`. -/
  gram   : Memory
  /-- `PY` has gone past `YE` in an advance since the last `RAMWR`, so that a stream write makes `GRAM` unknown (R171). -/
  overrun : Bool
  /-- The level of the last `Rst` event. -/
  rstLevel : Level
  /-- The level of the last `Bl` event. -/
  blLevel : Level
  /-- Milliseconds the reset line has been 0, while it is. -/
  lowFor : Option Nat
  /-- Milliseconds since the reset line went to 1, until `T_RST_HIGH` has passed. -/
  highFor : Option Nat
  /-- The pulse that ended then was long enough, and no byte has come since: the receiver is reset when `T_RST_HIGH` has
  passed. -/
  resetDue : Bool
  /-- Milliseconds since the last `SLPOUT`. -/
  wakeFor : Option Nat
deriving DecidableEq, Repr

/-- The initial receiver state: every field `UNKNOWN` (R166). -/
def Panel.initial : Panel where
  sleep := none
  disp := none
  colmod := none
  madctl := none
  inv := none
  regs := []
  xs := none
  xe := none
  ys := none
  ye := none
  px := none
  py := none
  mode := none
  gram := []
  overrun := false
  rstLevel := .unknown
  blLevel := .unknown
  lowFor := none
  highFor := none
  resetDue := false
  wakeFor := none

/-- Every field becomes `UNKNOWN`; the tracked levels and times stay. -/
def Panel.forgetAll (q : Panel) : Panel :=
  { Panel.initial with
    rstLevel := q.rstLevel
    blLevel := q.blLevel
    lowFor := q.lowFor
    highFor := q.highFor
    resetDue := q.resetDue
    wakeFor := q.wakeFor }

/-- The state a hardware reset leaves (R167). -/
def Panel.hardwareReset (q : Panel) : Panel :=
  { q.forgetAll with sleep := some .sleepIn, disp := some .off, mode := some .idle }

/-- The default `CONFIG_CMDS(v)` (R172). -/
def configCmdsDefault (o : OpBytes) : List Byte :=
  [o.madctl, o.colmod, o.porctrl, o.gctrl, o.vcoms, o.lcmctrl, o.pvgamctrl, o.nvgamctrl]

/-- `CONFIG_CMDS(v)` (R172). -/
def configCmds (p : Params) (v : Variant) : List Byte := (p.configCmds.get v).getD (configCmdsDefault p.ops)

/-- A command byte (R168, R175). -/
def Panel.command (p : Params) (v : Variant) (q : Panel) (c : Byte) : Panel :=
  if c = p.ops.ramwr then
    { q with px := q.xs, py := q.ys, mode := some (.stream none), overrun := false }
  else if c = p.ops.slpout then { q with sleep := some .sleepOut, mode := some .idle }
  else if c = p.ops.dispon then { q with disp := some .on, mode := some .idle }
  else if c = p.ops.invon then { q with inv := some .on, mode := some .idle }
  else if c = p.ops.invoff then { q with inv := some .off, mode := some .idle }
  else if c = p.ops.caset ∨ c = p.ops.raset ∨ (configCmds p v).contains c then { q with mode := some (.params c []) }
  else q.forgetAll

/-- The four bytes of `CASET` have come (R169). -/
def Panel.setColumns (q : Panel) : List Byte → Panel
  | [a, b, e, f] => { q with xs := some (joinBytes a b), xe := some (joinBytes e f), mode := some .idle }
  | _ => q

/-- The four bytes of `RASET` have come (R169). -/
def Panel.setRows (q : Panel) : List Byte → Panel
  | [a, b, e, f] => { q with ys := some (joinBytes a b), ye := some (joinBytes e f), mode := some .idle }
  | _ => q

/-- A parameter byte of the command `c`, which makes its list `l` (R169). -/
def Panel.param (p : Params) (v : Variant) (q : Panel) (c : Byte) (l : List Byte) : Panel :=
  let q := { q with mode := some (.params c l) }
  if c = p.ops.caset then q.setColumns l
  else if c = p.ops.raset then q.setRows l
  else if c = p.ops.madctl then (if l.length = 1 then { q with madctl := l.head? } else q)
  else if c = p.ops.colmod then (if l.length = 1 then { q with colmod := l.head? } else q)
  else if (configCmds p v).contains c then { q with regs := q.regs.write c.toNat l }
  else q

/-- The pixel word as a stream write leaves it: known only at 16 bits per pixel (R173). -/
def Panel.pixelWord (p : Params) (q : Panel) (hi lo : Byte) : Option Word16 :=
  match q.colmod with
  | some b => if p.colmod16bpp.contains b then some (joinBytes hi lo) else none
  | none => none

/-- Whether the orientation is known to be the one the row-major order assumes (R171). -/
def Panel.rowMajor (p : Params) (v : Variant) (q : Panel) : Bool :=
  match q.madctl with
  | some b => (p.madctlOk.get v).contains b
  | none => false

/-- `GRAM` after a stream write (R171, R173). -/
def Panel.gramAfter (p : Params) (v : Variant) (q : Panel) (hi lo : Byte) : Memory :=
  match q.px, q.py with
  | some x, some y =>
    if q.overrun || !(q.rowMajor p v) then []
    else
      match q.pixelWord p hi lo with
      | some w => Cells.write q.gram (gramKey x.toNat y.toNat) w
      | none => Cells.forget q.gram (gramKey x.toNat y.toNat)
  | _, _ => []

/-- Whether an advance ends a row: `PX + 1 > XE`, compared before it is cut to 16 bits (R171). -/
def Panel.rowEnds (q : Panel) : Option Bool :=
  match q.px, q.xe with
  | some x, some e => some (decide (x.toNat + 1 > e.toNat))
  | _, _ => none

/-- `PX` after an advance (R171); it reads neither `PY` nor the rows of the window. -/
def Panel.pxAfter (q : Panel) : Option Word16 :=
  match q.rowEnds with
  | some true => q.xs
  | some false => q.px.map (· + 1#16)
  | none => none

/-- `PY` after an advance, before it is cut to 16 bits (R171). -/
def Panel.rowAfter (q : Panel) : Option Nat :=
  match q.rowEnds with
  | some true => q.py.map (·.toNat + 1)
  | some false => q.py.map (·.toNat)
  | none => none

/-- A row number as the 16 bits of `PY`. [DESIGN CHOICE, safe: one that does not fit, which R171 does not treat, is
`UNKNOWN`; log entry 20.] -/
def rowWord (y : Nat) : Option Word16 := if y < 65536 then some (BitVec.ofNat 16 y) else none

/-- Whether the row pointer is past the window's end, or may be (R171). -/
def Panel.pastEnd (q : Panel) : Bool :=
  match q.rowAfter, q.ye with
  | some y, some e => decide (y > e.toNat)
  | _, _ => true

/-- The second byte of a pixel: the word is written and the pointer advances (R171). -/
def Panel.pixel (p : Params) (v : Variant) (q : Panel) (hi lo : Byte) : Panel :=
  { q with
    gram := q.gramAfter p v hi lo
    px := q.pxAfter
    py := q.rowAfter.bind rowWord
    overrun := q.overrun || q.pastEnd
    mode := some (.stream none) }

/-- A data byte (R169, R171). In an unknown `MODE` it could be anything, so every field becomes `UNKNOWN`. [DESIGN
CHOICE, safe: the spec does not say.] -/
def Panel.data (p : Params) (v : Variant) (q : Panel) (d : Byte) : Panel :=
  match q.mode with
  | none => q.forgetAll
  | some .idle => q
  | some (.params c l) => q.param p v c (l ++ [d])
  | some (.stream none) => { q with mode := some (.stream (some d)) }
  | some (.stream (some h)) => q.pixel p v h d

/-- Whether fewer than `ms` milliseconds are on a running time. -/
def shortOf (ms : Nat) : Option Nat → Bool
  | some n => decide (n < ms)
  | none => false

/-- Whether a byte now comes too early: the reset line is 0, or `T_RST_HIGH` (R167, R204) or `T_SLPOUT` (R170) has not
passed. Before the first `Rst` event the line's level is `UNKNOWN` and is not taken as 0. [DEDUCED: log entry 18.] -/
def Panel.tooEarly (q : Panel) : Bool :=
  q.rstLevel == .low || shortOf tRstHigh.toNat q.highFor || shortOf tSlpout.toNat q.wakeFor

/-- Starts the time since `SLPOUT` where a byte is that command (R170). -/
def Panel.startWake (p : Params) (q : Panel) (dc : Bit) (b : Byte) : Panel :=
  if dc = 0#1 ∧ b = p.ops.slpout then { q with wakeFor := some 0 } else q

/-- A byte the transport reported sent (R167, R168, R169, R170, R171). -/
def Panel.byte (p : Params) (v : Variant) (q : Panel) (dc : Bit) (b : Byte) : Panel :=
  let r := { q with resetDue := false }
  let r := if q.tooEarly then r.forgetAll else if dc = 0#1 then r.command p v b else r.data p v b
  r.startWake p dc b

/-- What a lost byte makes of the fields (R174): everything is unknown in `INITIALIZE`; the configuration stays in
`WRITE_FRAME`. -/
def Panel.forgetLost (q : Panel) : SeqOp → Panel
  | .writeFrame =>
    { q with
      gram := []
      xs := none
      xe := none
      ys := none
      ye := none
      px := none
      py := none
      overrun := false
      mode := none }
  | .initializeOp => q.forgetAll
  | .none => q.forgetAll

/-- A lost byte (R174). The panel may have received it (R85), so it counts as a byte for the waits: one that comes too early
makes every field `UNKNOWN`, whichever operation lost it, and a pending reset takes no effect any more (R167, R170, R204);
a lost `SLPOUT` starts the wait of R170. [DEDUCED: log entry 18.] -/
def Panel.lost (p : Params) (q : Panel) (op : SeqOp) (dc : Bit) (b : Byte) : Panel :=
  let r := { q with resetDue := false }
  (if q.tooEarly then r.forgetAll else r.forgetLost op).startWake p dc b

/-- `Rst(0)` (R167): the low time of a pulse starts. Where `T_RST_HIGH` had not passed since the line went to 1, the pulse
before had a shorter wait, and every field becomes `UNKNOWN`. [DEDUCED: log entry 18.] -/
def Panel.resetLow (q : Panel) : Panel :=
  { (if shortOf tRstHigh.toNat q.highFor then q.forgetAll else q) with
    rstLevel := .low
    lowFor := some (q.lowFor.getD 0)
    highFor := none
    resetDue := false }

/-- `Rst(1)` (R167, R204): the low time ends and the wait before the next byte starts. A pulse shorter than `T_RST_LOW` makes
every field `UNKNOWN`, and so does a line that goes to 1 from an `UNKNOWN` level; a line that is 1 already stays as it is.
[DEDUCED where no pulse is open: log entry 18.] -/
def Panel.resetHigh (q : Panel) : Panel :=
  match q.lowFor with
  | some n =>
    if n < tRstLow.toNat then
      { q.forgetAll with rstLevel := .high, lowFor := none, highFor := some 0, resetDue := false }
    else { q with rstLevel := .high, lowFor := none, highFor := some 0, resetDue := true }
  | none =>
    if q.rstLevel = .high then q
    else { q.forgetAll with rstLevel := .high, highFor := some 0, resetDue := false }

/-- The reset line at a level. -/
def Panel.reset (q : Panel) (l : Bit) : Panel := if l = 0#1 then q.resetLow else q.resetHigh

/-- `T_RST_HIGH` has passed since the line went to 1: a pulse that was long enough takes effect (R167). -/
def Panel.endHigh (q : Panel) : Panel :=
  { (if q.resetDue then q.hardwareReset else q) with highFor := none, resetDue := false }

/-- A wait of at least `ms` (R62): the running times grow by it. -/
def Panel.wait (q : Panel) (ms : Nat) : Panel :=
  let q := { q with lowFor := q.lowFor.map (· + ms), wakeFor := q.wakeFor.map (· + ms) }
  match q.highFor with
  | none => q
  | some n => if n + ms < tRstHigh.toNat then { q with highFor := some (n + ms) } else q.endHigh

/-- One event of the trace (R164, R176). -/
def Panel.event (p : Params) (v : Variant) (q : Panel) (e : TraceEntry) : Panel :=
  match e.ev with
  | .byte dc b => q.byte p v dc b
  | .lost dc b => q.lost p e.op dc b
  | .rst l => q.reset l
  | .bl l => { q with blLevel := levelOf l }
  | .delay ms => q.wait ms.toNat

/-- The receiver after a trace, from a state (R164). -/
def Panel.fold (p : Params) (v : Variant) (q : Panel) (t : List TraceEntry) : Panel := t.foldl (Panel.event p v) q

/-- The receiver after a block's trace. -/
def Block.panel (p : Params) (b : Block) : Panel := Panel.fold p b.cfg.variant Panel.initial b.trace

/-- The panel as the model knows it: unknown where no block exists (R40). -/
def State.panel (s : State) : Panel :=
  match s.block with
  | none => Panel.initial
  | some b => b.panel s.params

/-- Whether the panel shows its frame memory (R170). -/
def Panel.shows (q : Panel) : Bool := q.sleep == some .sleepOut && q.disp == some .on && q.blLevel == .high

/-- The word of the frame memory at a column and row, none where unknown. -/
def Panel.gramAt (q : Panel) (x y : Nat) : Option Word16 := Cells.read q.gram (gramKey x y)

end Sys2Proof.Machine
end

