-- ==== Sys2Proof/Safety.lean ====
section
/-! DEFINITION. What counts as a safe run: no contract fault (R180), and the states the block's own operations reach, as
invariants. -/

namespace Sys2Proof.Machine

/-- `FAULT` is empty, or no block exists: the premise of every claim (R180). -/
def State.faultFree (s : State) : Bool :=
  match s.block with
  | none => true
  | some b => b.faults == 0#5

/-- `CFG` is one `CONSTRUCT` accepts the size of (R21). -/
abbrev Cfg.legal (c : Cfg) : Prop := 1 ≤ c.w ∧ c.w ≤ 65536 ∧ 1 ≤ c.h ∧ c.h ≤ 65536

/-- The phases `INITIALIZE` is in when its next micro-operation is the one at `k` (R106, R108). -/
def phaseWhile (cfg : Cfg) (k : Nat) (p : Phase) : Prop :=
  if k < 4 then p = .uninit ∨ p = .initFailed
  else if k < 4 + tableMicroOps cfg.initTable then p = .resetting
  else p = .configuredOff

/-- No operation in progress: `SEQ` is `(NONE, [], 0)` (R30), and `PHASE` is one an operation leaves (R103). -/
def Block.idleInv (b : Block) : Prop :=
  b.seq.op = .none → b.seq = Seq.idle ∧ (b.phase = .uninit ∨ b.phase = .initFailed ∨ b.phase = .active)

/-- `INITIALIZE` in progress: its list is `InitProg` (R104), `SEQ.K` is within it, `PHASE` goes with `SEQ.K`, and the
lines have the levels the list has driven them to. -/
def Block.initInv (o : OpBytes) (b : Block) : Prop :=
  b.seq.op = .initializeOp →
    b.seq.prog = initProg o b.cfg ∧ b.seq.k ≤ b.seq.prog.length ∧ phaseWhile b.cfg b.seq.k b.phase ∧
      (3 ≤ b.seq.k → b.rst = .high) ∧ (b.seq.k = b.seq.prog.length → b.bl = .high)

/-- `WRITE_FRAME` in progress: `PHASE` is `ACTIVE` (R133) and the list is `FrameProg` of the frame buffer lent, which has the
right size (R134, R135). -/
def Block.frameInv (o : OpBytes) (b : Block) : Prop :=
  b.seq.op = .writeFrame →
    b.phase = .active ∧ b.seq.k ≤ b.seq.prog.length ∧ b.frame.length = frameBytes b.cfg ∧
      b.seq.prog = frameProg o b.cfg b.frame

/-- Once a byte of a pixel has been sent, and until the next pixel is packed, `PIX_IN` holds that pixel and `PIX_OUT` its
packed word (R19, R160). -/
def Block.packerInv (b : Block) : Prop :=
  b.seq.op = .writeFrame → windowOps < b.seq.k →
    ∀ p, pixelStartingAt b.frame (windowOps + (b.seq.k - windowOps - 1) / 2 * 2) = some p →
      b.pixIn = p ∧ b.pixOut = packPixIn p

/-- The frame buffer is lent for the duration of a `WRITE_FRAME` only (R46). -/
def Block.lentInv (b : Block) : Prop := b.seq.op ≠ .writeFrame → b.frame = []

/-- In `ACTIVE` the reset line is released and the backlight is on (R111, R149). -/
def Block.activeInv (b : Block) : Prop := b.phase = .active → b.rst = .high ∧ b.bl = .high

/-- `STATUS` is one R179 gives the block: `OK` at 0, or `TRANSFER_ERROR`. -/
def Block.statusInv (b : Block) : Prop :=
  b.status = ⟨.ok, 0⟩ ∨ ∃ k, b.status = ⟨.transferError, k⟩

/-- The invariant of a block. -/
def Block.Inv (o : OpBytes) (b : Block) : Prop :=
  b.cfg.legal ∧ b.idleInv ∧ b.initInv o ∧ b.frameInv o ∧ b.packerInv ∧ b.lentInv ∧ b.activeInv ∧ b.statusInv

/-- The invariant of the machine: the block, where there is one, meets its own, and there is none once an acquisition has
failed (R100). -/
def State.Inv (s : State) : Prop :=
  (∀ b, s.block = some b → b.Inv s.params.ops) ∧ (s.acquisitionFailed = true → s.block = none)

/-! ## The terms claims about runs use -/

/-- Whether an instruction is a host operation (R71). -/
def isHostOp : Instr → Bool
  | .construct _ _ _ _ _ => true
  | .initializeOp => true
  | .writeFrame _ => true
  | .pack565 _ _ _ => true
  | .writeCmd _ => false
  | .writeData _ => false
  | .setRst _ => false
  | .setBl _ => false
  | .delay _ => false
  | .cmdSlpout => false
  | .cmdDispon => false
  | .cmdCaset => false
  | .cmdRaset => false
  | .cmdRamwr => false
  | .cmdMadctl => false
  | .cmdColmod => false
  | .cmdPorctrl => false
  | .cmdGctrl => false
  | .cmdVcoms => false
  | .cmdLcmctrl => false
  | .cmdPvgamctrl => false
  | .cmdNvgamctrl => false
  | .cmdInvon => false
  | .cmdInvoff => false

/-- Whether an instruction is a `CONSTRUCT`, the one instruction that makes a new block (R99). -/
def isConstruct : Instr → Bool
  | .construct _ _ _ _ _ => true
  | _ => false

/-- The byte a micro-operation sends and its data/command level (R86, R87, R77); none for an instruction that sends
none. -/
def byteSentBy (o : OpBytes) : Instr → Option (Bit × Byte)
  | .construct _ _ _ _ _ => none
  | .initializeOp => none
  | .writeFrame _ => none
  | .pack565 _ _ _ => none
  | .writeCmd b => some (0#1, b)
  | .writeData b => some (1#1, b)
  | .setRst _ => none
  | .setBl _ => none
  | .delay _ => none
  | .cmdSlpout => some (0#1, o.slpout)
  | .cmdDispon => some (0#1, o.dispon)
  | .cmdCaset => some (0#1, o.caset)
  | .cmdRaset => some (0#1, o.raset)
  | .cmdRamwr => some (0#1, o.ramwr)
  | .cmdMadctl => some (0#1, o.madctl)
  | .cmdColmod => some (0#1, o.colmod)
  | .cmdPorctrl => some (0#1, o.porctrl)
  | .cmdGctrl => some (0#1, o.gctrl)
  | .cmdVcoms => some (0#1, o.vcoms)
  | .cmdLcmctrl => some (0#1, o.lcmctrl)
  | .cmdPvgamctrl => some (0#1, o.pvgamctrl)
  | .cmdNvgamctrl => some (0#1, o.nvgamctrl)
  | .cmdInvon => some (0#1, o.invon)
  | .cmdInvoff => some (0#1, o.invoff)

/-- R83 enables a micro-operation of this block. -/
def MicroReady (s : State) (b : Block) : Prop :=
  s.block = some b ∧ b.faults = 0#5 ∧ b.seq.op ≠ .none ∧ b.seq.k < b.seq.prog.length

/-- A host operation of this block passes the first two checks of R184. -/
def HostReady (s : State) (b : Block) : Prop := s.block = some b ∧ b.faults = 0#5 ∧ b.seq.op = .none

/-- It is the host's turn: the next step issues its next request (R184), because no block exists, the block is idle, or a
second host flow issues while it is busy (R189). -/
def HostTurn (s : State) : Prop :=
  s.block = none ∨ (∃ b, HostReady s b) ∨ ∃ b, s.block = some b ∧ b.faults = 0#5 ∧ s.overlapDue = true

/-- The events of an entry of the bring-up table (R115). -/
def entryEvents (e : TableEntry) : List WireEvent := .byte 0#1 e.cmd :: e.params.map (.byte 1#1)

/-- The events of a successful `INITIALIZE` (R105, R107, R109, R111). -/
def initEvents (o : OpBytes) (cfg : Cfg) : List WireEvent :=
  [.rst 0#1, .delay 100#9, .rst 1#1, .delay 100#9] ++ cfg.initTable.flatMap entryEvents ++
    [.byte 0#1 o.slpout, .delay 120#9, .byte 0#1 o.dispon, .bl 1#1]

/-- The events of a frame buffer's pixels (R140, R141). -/
def streamEvents : List Byte → List WireEvent
  | r :: g :: b :: fb =>
    .byte 1#1 (hiByte (pack565 r g b)) :: .byte 1#1 (loByte (pack565 r g b)) :: streamEvents fb
  | _ => []

/-- The events of a successful `WRITE_FRAME` (R136, R138, R139, R145). -/
def frameEvents (o : OpBytes) (cfg : Cfg) (fb : List Byte) : List WireEvent :=
  [.byte 0#1 o.caset] ++ (window4 cfg.w).map (.byte 1#1) ++ [.byte 0#1 o.raset] ++
    (window4 cfg.h).map (.byte 1#1) ++ [.byte 0#1 o.ramwr] ++ streamEvents fb

/-- Events as a host operation emits them (R164). -/
def tagged (op : SeqOp) (es : List WireEvent) : List TraceEntry := es.map fun e => ⟨op, e⟩

/-- The event a byte becomes when the transport fails it (R85); other events cannot fail (R91). -/
def lostOf : WireEvent → WireEvent
  | .byte dc b => .lost dc b
  | e => e

/-- The events of one `WRITE_FRAME` that succeeds, or that fails at the byte of index `n` (R147). -/
def attemptEvents (o : OpBytes) (cfg : Cfg) : List Byte × Option Nat → List WireEvent
  | (fb, none) => frameEvents o cfg fb
  | (fb, some n) => (frameEvents o cfg fb).take n ++ ((frameEvents o cfg fb)[n]?.map lostOf).toList

/-- The level the last byte event of a trace left the data/command line at (R60). -/
def dcOf (t : List TraceEntry) : Level :=
  t.foldl (fun l e => match e.ev with
    | .byte dc _ => levelOf dc
    | .lost dc _ => levelOf dc
    | _ => l) .unknown

/-- The level the last `Rst` event of a trace left the reset line at. -/
def rstOf (t : List TraceEntry) : Level :=
  t.foldl (fun l e => match e.ev with
    | .rst d => levelOf d
    | _ => l) .unknown

/-- The level the last `Bl` event of a trace left the backlight line at. -/
def blOf (t : List TraceEntry) : Level :=
  t.foldl (fun l e => match e.ev with
    | .bl d => levelOf d
    | _ => l) .unknown

/-- The three line levels are those the trace shows (R27 to R29, R60). -/
def State.LinesInv (s : State) : Prop :=
  ∀ b, s.block = some b → b.dc = dcOf b.trace ∧ b.rst = rstOf b.trace ∧ b.bl = blOf b.trace

/-- Every receiver field is `UNKNOWN`. -/
def Panel.AllUnknown (q : Panel) : Prop :=
  q.sleep = none ∧ q.disp = none ∧ q.colmod = none ∧ q.madctl = none ∧ q.inv = none ∧ q.regs = [] ∧
    q.xs = none ∧ q.xe = none ∧ q.ys = none ∧ q.ye = none ∧ q.px = none ∧ q.py = none ∧ q.mode = none ∧
    q.gram = []

/-- The configuration fields of the receiver are the same (R174). -/
def Panel.SameConfig (q r : Panel) : Prop :=
  r.sleep = q.sleep ∧ r.disp = q.disp ∧ r.colmod = q.colmod ∧ r.madctl = q.madctl ∧ r.inv = q.inv ∧ r.regs = q.regs

end Sys2Proof.Machine
end

