-- ==== Sys2Proof/Certificates/Slice0/Obligations.lean ====
section
/-! DEFINITION. The statements for the provers. Each says which rule of spec/ it formalises. A statement about an
answer of the transport holds of a scripted answer and of a free one alike: `nextAnswer` is either. -/

open Sys2Proof Sys2Proof.Machine

/-! ## Encoding -/

/-- R82, R67, R71: decoding the encoding of a well-formed instruction gives it back, with every operand at every value,
whatever the (distinct) command bytes are. -/
def Obligations.DecodeEncodeAgree : Prop :=
  ∀ (o : OpBytes) (i : Instr), o.distinct = true → i.wf o = true → decode o (encode o i) = .ok i

/-- R82: each word has one meaning: a word that decodes is the encoding of the instruction it decodes to, which is
well formed. -/
def Obligations.EncodeDecodedWord : Prop :=
  ∀ (o : OpBytes) (u : MicroWord) (i : Instr),
    decodeMicro o u = .ok i → encode o i = .micro u ∧ i.wf o = true

/-- R69, R82: the decoder refuses exactly the words of `KIND` 4 to 7 and the `SET_RST` and `SET_BL` words with any of
bits 8:1 set, and decodes every other. -/
def Obligations.IllegalMicroWords : Prop :=
  ∀ (o : OpBytes) (u : MicroWord),
    (decodeMicro o u = .error (.illegalMicroop u) ↔
      (4 ≤ u.toNat / 512 ∨ ((u.toNat / 512 = 1 ∨ u.toNat / 512 = 2) ∧ u.toNat / 2 % 256 ≠ 0))) ∧
    ((∃ i, decodeMicro o u = .ok i) ∨ decodeMicro o u = .error (.illegalMicroop u))

/-- R67, 95_test_vectors.md section 2.2: words written out from the spec decode to what they stand for. -/
def Obligations.SpecWordsDecode : Prop :=
  decodeMicro OpBytes.default 0b000000101010#12 = .ok .cmdCaset ∧
  decodeMicro OpBytes.default 0b000000000000#12 = .ok (.writeCmd 0x00#8) ∧
  decodeMicro OpBytes.default 0b000111101111#12 = .ok (.writeData 0xEF#8) ∧
  decodeMicro OpBytes.default 0b001000000001#12 = .ok (.setRst 1#1) ∧
  decodeMicro OpBytes.default 0b010000000000#12 = .ok (.setBl 0#1) ∧
  decodeMicro OpBytes.default 0b011001100100#12 = .ok (.delay 100#9) ∧
  decodeMicro OpBytes.default 0b001000000010#12 = .error (.illegalMicroop 0x202#12) ∧
  decodeHost 2#4 [] = .ok .initializeOp

/-- R71, R72, R152, R181: at the host boundary a reserved selector is refused, whatever its operands; so is an operand list
that has not the kinds or the length the operation asks for, a `PACK565` channel of 256 or more, and a frame that holds a
number that is no byte. At the host's turn the step answers the refusal of a request that does not decode, of an image with no
pixels and of an image whose bytes do not fit its size, and so no operation starts. The order of the refusals of an image and
the check of its length are the model's choice (log entry 21), as is the host's list of requests (log entry 8). -/
def Obligations.HostBoundaryRefuses : Prop :=
  (∀ (opid : BitVec 4) (operands : List Operand), (opid = 0#4 ∨ 5 ≤ opid.toNat) →
    decodeHost opid operands = .error (.reservedOpid opid)) ∧
  (∀ operands : List Operand,
    ((∀ v w h l b, operands ≠ [.variant v, .nat w, .nat h, .lines l, .bus b]) →
      decodeHost 1#4 operands = .error (.operandOutsideType 1#4)) ∧
    (operands ≠ [] → decodeHost 2#4 operands = .error (.operandOutsideType 2#4)) ∧
    ((∀ ns, operands ≠ [.bytes ns]) → decodeHost 3#4 operands = .error (.operandOutsideType 3#4)) ∧
    ((∀ r g b, operands ≠ [.nat r, .nat g, .nat b]) →
      decodeHost 4#4 operands = .error (.operandOutsideType 4#4))) ∧
  (∀ r g b : Nat, (256 ≤ r ∨ 256 ≤ g ∨ 256 ≤ b) →
    decodeHost 4#4 [.nat r, .nat g, .nat b] = .error (.operandOutsideType 4#4)) ∧
  (∀ ns : List Nat, (∃ n ∈ ns, 256 ≤ n) → decodeHost 3#4 [.bytes ns] = .error (.operandOutsideType 3#4)) ∧
  (∀ (s : State) (r : HostRequest) (rest : List HostRequest) (opid : BitVec 4) (operands : List Operand)
    (e : DecodeError), HostTurn s → s.host = r :: rest → r.call = .op opid operands →
    decodeHost opid operands = .error e → step s = .refused (.undecoded e)) ∧
  (∀ (s : State) (r : HostRequest) (rest : List HostRequest) (img : Image), HostTurn s → s.host = r :: rest →
    r.call = .image img →
    (s.block = none → step s = .refused .noBlock) ∧
    (s.block ≠ none → (img.sw = 0 ∨ img.sh = 0) → step s = .refused .emptyImage) ∧
    (s.block ≠ none → 1 ≤ img.sw → 1 ≤ img.sh → img.bytes.length ≠ 3 * img.sw * img.sh →
      step s = .refused .imageBytes))

/-! ## Micro-operations -/

/-- What a byte the transport answers `OK` leaves (R86, R87): the event, the line, the latch, `SEQ.K`, and the phase that
goes with `SEQ.K`; nothing else. -/
def Sys2Proof.Machine.sentState (s : State) (b : Block) (dc : Bit) (v : Byte) : State :=
  { s with
    answers := s.answers.tail
    drawn := s.drawn + 1
    block := some { b with
      dc := if dc = 0#1 then .low else .high
      byteOut := dc ++ v
      trace := b.trace ++ [⟨b.seq.op, .byte dc v⟩]
      seq := ⟨b.seq.op, b.seq.prog, b.seq.k + 1⟩
      phase := b.phaseAt (b.seq.k + 1) } }

/-- What an instruction that sends the byte `v` at the level `dc` does, whichever answer comes (R86, R87, R95): with `OK`
exactly `sentState`; with `FAIL` the lost byte, the line at its level, the failing index in `STATUS` and `SEQ` cleared. -/
def Sys2Proof.Machine.SendsByte (i : Instr) (dc : Bit) (v : Byte) (s : State) (b : Block) : Prop :=
  (s.nextAnswer = .ok → exec i s = .next (sentState s b dc v)) ∧
  (s.nextAnswer = .fail → ∃ t b', exec i s = .next t ∧ t.block = some b' ∧
    b'.dc = (if dc = 0#1 then .low else .high) ∧ b'.trace = b.trace ++ [⟨b.seq.op, .lost dc v⟩] ∧
    b'.status = ⟨.transferError, b.seq.k⟩ ∧ b'.seq = ⟨.none, [], 0⟩)

/-- R86: `WRITE_CMD b` sends the command byte `b`, any byte; each word `0x000 | b` decodes to an instruction that sends
`b` as a command. -/
def Obligations.WriteCmdSendsCommandByte : Prop :=
  (∀ (s : State) (b : Block) (v : Byte), MicroReady s b → SendsByte (.writeCmd v) 0#1 v s b) ∧
  ∀ (o : OpBytes) (v : Byte), ∃ i, decodeMicro o (0x000#12 ||| v.setWidth 12) = .ok i ∧ byteSentBy o i = some (0#1, v)

/-- R87: `WRITE_DATA b` sends the data byte `b`, any byte; each word `0x100 | b` decodes to it. -/
def Obligations.WriteDataSendsDataByte : Prop :=
  (∀ (s : State) (b : Block) (v : Byte), MicroReady s b → SendsByte (.writeData v) 1#1 v s b) ∧
  ∀ (o : OpBytes) (v : Byte), decodeMicro o (0x100#12 ||| v.setWidth 12) = .ok (.writeData v)

/-- R115, R116 to R124: each named table command sends its command byte. -/
def Obligations.TableCommandsSendTheirByte : Prop :=
  ∀ (s : State) (b : Block) (i : Instr) (v : Byte), MicroReady s b →
    (i, v) ∈ [(Instr.cmdMadctl, s.params.ops.madctl), (.cmdColmod, s.params.ops.colmod),
      (.cmdPorctrl, s.params.ops.porctrl), (.cmdGctrl, s.params.ops.gctrl), (.cmdVcoms, s.params.ops.vcoms),
      (.cmdLcmctrl, s.params.ops.lcmctrl), (.cmdPvgamctrl, s.params.ops.pvgamctrl),
      (.cmdNvgamctrl, s.params.ops.nvgamctrl), (.cmdInvon, s.params.ops.invon), (.cmdInvoff, s.params.ops.invoff)] →
    SendsByte i 0#1 v s b

/-- R126, R127, R136, R138, R139: each command the sequencer owns sends its command byte. -/
def Obligations.OwnedCommandsSendTheirByte : Prop :=
  ∀ (s : State) (b : Block) (i : Instr) (v : Byte), MicroReady s b →
    (i, v) ∈ [(Instr.cmdSlpout, s.params.ops.slpout), (.cmdDispon, s.params.ops.dispon),
      (.cmdCaset, s.params.ops.caset), (.cmdRaset, s.params.ops.raset), (.cmdRamwr, s.params.ops.ramwr)] →
    SendsByte i 0#1 v s b

/-- R85, R95, R112, R185: a byte the transport answers `FAIL`, of whatever instruction sends one, aborts the host
operation: the failing index in `STATUS`, `SEQ` cleared, the byte recorded as lost, `PHASE` at `INIT_FAILED` for
`INITIALIZE` and unchanged for `WRITE_FRAME`, the line at the failed byte's level, the frame buffer given back, the latches at whatever value,
the rest as it was. -/
def Obligations.FailedByteAborts : Prop :=
  ∀ (s : State) (b : Block) (i : Instr) (dc : Bit) (v : Byte), MicroReady s b → s.nextAnswer = .fail →
    byteSentBy s.params.ops i = some (dc, v) →
    ∃ t b', exec i s = .next t ∧ t.block = some b' ∧
      b'.status = ⟨.transferError, b.seq.k⟩ ∧ b'.seq = ⟨.none, [], 0⟩ ∧
      b'.trace = b.trace ++ [⟨b.seq.op, .lost dc v⟩] ∧
      b'.phase = (if b.seq.op = .initializeOp then .initFailed else b.phase) ∧
      b'.dc = (if dc = 0#1 then .low else .high) ∧ b'.rst = b.rst ∧ b'.bl = b.bl ∧ b'.cfg = b.cfg ∧
      b'.faults = b.faults ∧ b'.frame = [] ∧ t.ret = some (.status .transferError b.seq.k) ∧ t.answers = s.answers.tail ∧
      t.host = s.host ∧ t.params = s.params

/-- R89, R91: `SET_RST l` drives the reset line, whatever the transport would answer; the words `0x200 | l` decode to it. -/
def Obligations.SetRstDrivesResetLine : Prop :=
  (∀ (s : State) (b : Block) (l : Bit), MicroReady s b →
    exec (.setRst l) s = .next { s with
      block := some { b with
        rst := if l = 0#1 then .low else .high
        trace := b.trace ++ [⟨b.seq.op, .rst l⟩]
        seq := ⟨b.seq.op, b.seq.prog, b.seq.k + 1⟩
        phase := b.phaseAt (b.seq.k + 1) } }) ∧
  ∀ (o : OpBytes) (l : Bit), decodeMicro o (0x200#12 ||| l.setWidth 12) = .ok (.setRst l)

/-- R90, R91: `SET_BL l` drives the backlight line, whatever the transport would answer; the words `0x400 | l` decode to it. -/
def Obligations.SetBlDrivesBacklight : Prop :=
  (∀ (s : State) (b : Block) (l : Bit), MicroReady s b →
    exec (.setBl l) s = .next { s with
      block := some { b with
        bl := if l = 0#1 then .low else .high
        trace := b.trace ++ [⟨b.seq.op, .bl l⟩]
        seq := ⟨b.seq.op, b.seq.prog, b.seq.k + 1⟩
        phase := b.phaseAt (b.seq.k + 1) } }) ∧
  ∀ (o : OpBytes) (l : Bit), decodeMicro o (0x400#12 ||| l.setWidth 12) = .ok (.setBl l)

/-- R93, R91: `DELAY ms` records the wait and changes no line, at every `ms` from 0 to 511; the words `0x600 | ms`
decode to it. -/
def Obligations.DelayRecordsWait : Prop :=
  (∀ (s : State) (b : Block) (ms : BitVec 9), MicroReady s b →
    exec (.delay ms) s = .next { s with
      block := some { b with
        trace := b.trace ++ [⟨b.seq.op, .delay ms⟩]
        seq := ⟨b.seq.op, b.seq.prog, b.seq.k + 1⟩
        phase := b.phaseAt (b.seq.k + 1) } }) ∧
  ∀ (o : OpBytes) (ms : BitVec 9), decodeMicro o (0x600#12 ||| ms.setWidth 12) = .ok (.delay ms)

/-- R106, R108, R26: where an instruction advances `SEQ.K`, `PHASE` becomes `CONFIGURED_OFF` when `SEQ.K` becomes `4 + S`
and `RESETTING` when it becomes 4, in `INITIALIZE` alone, and is unchanged otherwise. That the first wins where `S` is 0 is
the model's reading (log entry 13). -/
def Obligations.PhaseChangesAtStageEnds : Prop :=
  ∀ (s t : State) (b b' : Block) (i : Instr), s.block = some b → exec i s = .next t → t.block = some b' →
    b'.seq.k = b.seq.k + 1 →
    b'.phase =
      if b.seq.op = .initializeOp ∧ b.seq.k + 1 = 4 + (b.cfg.initTable.map fun e => 1 + e.params.length).sum then
        .configuredOff
      else if b.seq.op = .initializeOp ∧ b.seq.k + 1 = 4 then .resetting
      else b.phase

/-- R83: a micro-operation has no step where no host operation is in progress or its list is at its end. -/
def Obligations.MicroNeedsOperationInProgress : Prop :=
  ∀ (s : State) (b : Block) (i : Instr), s.block = some b → b.faults = 0#5 →
    (b.seq.op = .none ∨ b.seq.prog.length ≤ b.seq.k) → isHostOp i = false →
    exec i s = .refused .microNotEnabled

/-! ## Host operations -/

/-- R198, R99, R40: `CONSTRUCT` of a legal configuration, every acquisition answered `OK`, completes with the state of
R40, the latches at whatever value and the panel unknown, and returns `OK`. -/
def Obligations.ConstructGivesFreshBlock : Prop :=
  ∀ (s : State) (v : Variant) (w h : Nat) (lines : Lines) (bus : Bus) (rest : List Answer),
    s.block = none → s.acquisitionFailed = false → 1 ≤ w → w ≤ 65536 → 1 ≤ h → h ≤ 65536 →
    (∀ m, s.params.maxCols.get v = some m → w ≤ m) → (∀ m, s.params.maxRows.get v = some m → h ≤ m) →
    tableOk s.params v (s.params.initTable.get v) = true →
    s.answers = .ok :: .ok :: .ok :: .ok :: rest →
    ∃ t pixIn pixOut byteOut, exec (.construct v w h lines bus) s = .next t ∧ t.panel.AllUnknown ∧
      t.block = some {
        cfg := ⟨v, w, h, tableOf (s.params.initTable.get v), lines, bus⟩
        phase := .uninit
        dc := .unknown
        rst := .unknown
        bl := .unknown
        seq := ⟨.none, [], 0⟩
        status := ⟨.ok, 0⟩
        faults := 0#5
        trace := []
        frame := []
        pixIn := pixIn
        pixOut := pixOut
        byteOut := byteOut } ∧
      t.acquisitionFailed = false ∧ t.ret = some (.status .ok 0) ∧ t.answers = rest ∧ t.host = s.host ∧ t.params = s.params

/-- R100 and U19 of 93_implementation_defined.md: where one of the four acquisitions fails, the operation returns
`ACQUISITION_ERROR`, no block exists, no later acquisition is asked for, and no operation, `CONSTRUCT` included, is defined
any more: each is a refusal (log entry 11). -/
def Obligations.FailedAcquisitionLeavesNoBlock : Prop :=
  ∀ (s : State) (v : Variant) (w h : Nat) (lines : Lines) (bus : Bus) (n : Nat) (rest : List Answer),
    s.block = none → s.acquisitionFailed = false → configOk s.params v w h = true → n < 4 →
    s.answers = List.replicate n .ok ++ .fail :: rest →
    ∃ t, exec (.construct v w h lines bus) s = .next t ∧ t.block = none ∧
      t.ret = some (.status .acquisitionError 0) ∧ t.answers = rest ∧ t.host = s.host ∧ t.params = s.params ∧
      ∀ i, exec i t = .refused .noBlock

/-- R101, R21: `CONSTRUCT` refuses a dimension of 0 or above 65536, one above the variant's range where that is given,
and a table that fails `TableOK`, whatever the acquisitions would answer. -/
def Obligations.IllegalConfigurationRefused : Prop :=
  ∀ (s : State) (v : Variant) (w h : Nat) (lines : Lines) (bus : Bus),
    s.block = none → s.acquisitionFailed = false →
    (w = 0 ∨ 65536 < w ∨ h = 0 ∨ 65536 < h ∨ (∃ m, s.params.maxCols.get v = some m ∧ m < w) ∨
      (∃ m, s.params.maxRows.get v = some m ∧ m < h) ∨
      tableOk s.params v (s.params.initTable.get v) = false) →
    exec (.construct v w h lines bus) s = .refused .configInvalid

/-- The model's choice (log entry 10, from R200): `CONSTRUCT` issued to an idle block is the construction of a new
process, and does what it does where no block exists and none has failed to be constructed. -/
def Obligations.ConstructStartsAnew : Prop :=
  ∀ (s : State) (b : Block) (v : Variant) (w h : Nat) (lines : Lines) (bus : Bus), HostReady s b →
    exec (.construct v w h lines bus) s =
      exec (.construct v w h lines bus) { s with block := none, acquisitionFailed := false }

/-- R114: `TableOK` holds exactly when every named check holds. -/
def Obligations.TableOkIsTheNamedChecks : Prop :=
  ∀ (p : Params) (v : Variant) (raw : List RawEntry),
    tableOk p v raw = true ↔
      (∀ e ∈ raw, e.cmd < 256 ∧ ∀ x ∈ e.params, x < 256) ∧
      (∀ e ∈ tableOf raw, e.cmd ≠ p.ops.slpout ∧ e.cmd ≠ p.ops.dispon ∧ e.cmd ≠ p.ops.caset ∧
        e.cmd ≠ p.ops.raset ∧ e.cmd ≠ p.ops.ramwr) ∧
      (∀ e ∈ tableOf raw, (e.cmd = p.ops.pvgamctrl ∨ e.cmd = p.ops.nvgamctrl) → e.params.length = 14) ∧
      ((∃ e ∈ tableOf raw, e.cmd = p.ops.colmod) ∧
        ∀ e ∈ tableOf raw, e.cmd = p.ops.colmod → ∃ b ∈ p.colmod16bpp, e.params = [b]) ∧
      ((∃ e ∈ tableOf raw, e.cmd = p.ops.madctl) ∧
        ∀ e ∈ tableOf raw, e.cmd = p.ops.madctl → ∃ b ∈ p.madctlOk.get v, e.params = [b]) ∧
      ((∀ c ∈ [p.ops.madctl, p.ops.colmod, p.ops.pvgamctrl, p.ops.nvgamctrl], ∃ e ∈ tableOf raw, e.cmd = c) ∧
        (v = .st7789 → ∀ c ∈ [p.ops.porctrl, p.ops.gctrl, p.ops.vcoms, p.ops.lcmctrl],
          ∃ e ∈ tableOf raw, e.cmd = c) ∧
        ∃ e ∈ tableOf raw, e.cmd = p.ops.invon ∨ e.cmd = p.ops.invoff)

/-- R102, R113: `INITIALIZE` from `UNINIT` and from `INIT_FAILED` starts the sequencer on `InitProg` from its beginning,
and changes nothing else. -/
def Obligations.InitializeStartsSequence : Prop :=
  ∀ (s : State) (b : Block), HostReady s b → (b.phase = .uninit ∨ b.phase = .initFailed) →
    exec .initializeOp s = .next { s with
      block := some { b with seq := ⟨.initializeOp, initProg s.params.ops b.cfg, 0⟩ } }

/-- R103: `INITIALIZE` in any other phase takes the contract fault `INIT_PHASE` (bit 0), emits nothing and changes no
other state. -/
def Obligations.InitializeOutOfPhaseFaults : Prop :=
  ∀ (s : State) (b : Block), HostReady s b →
    (b.phase = .resetting ∨ b.phase = .configuredOff ∨ b.phase = .active) →
    exec .initializeOp s = .next { s with block := some { b with faults := 0b00001#5 } }

/-- R132, R19, R46: `WRITE_FRAME` of a frame of the right size in `ACTIVE` starts the sequencer on `FrameProg` with the frame
buffer lent; the pixel latches are at whatever value (log entry 5), and nothing else changes but the count of values drawn. -/
def Obligations.WriteFrameStartsSequence : Prop :=
  ∀ (s : State) (b : Block) (fb : List Byte), HostReady s b → b.phase = .active →
    fb.length = 3 * b.cfg.w * b.cfg.h →
    ∃ t pixIn pixOut, exec (.writeFrame fb) s = .next t ∧
      t.block = some { b with
        seq := ⟨.writeFrame, frameProg s.params.ops b.cfg fb, 0⟩
        frame := fb
        pixIn := pixIn
        pixOut := pixOut } ∧
      t.params = s.params ∧ t.host = s.host ∧ t.answers = s.answers ∧ t.ret = s.ret

/-- R133, R184: `WRITE_FRAME` outside `ACTIVE` takes the contract fault `FRAME_PHASE` (bit 1), whatever the frame's size,
emits nothing and changes no other state. -/
def Obligations.EarlyFrameFaults : Prop :=
  ∀ (s : State) (b : Block) (fb : List Byte), HostReady s b → b.phase ≠ .active →
    exec (.writeFrame fb) s = .next { s with block := some { b with faults := 0b00010#5 } }

/-- R134, R47: `WRITE_FRAME` of a frame of any other size in `ACTIVE` takes the contract fault `FRAME_SIZE` (bit 2), emits
nothing and changes no other state. -/
def Obligations.WrongSizeFrameFaults : Prop :=
  ∀ (s : State) (b : Block) (fb : List Byte), HostReady s b → b.phase = .active →
    fb.length ≠ 3 * b.cfg.w * b.cfg.h →
    exec (.writeFrame fb) s = .next { s with block := some { b with faults := 0b00100#5 } }

/-- R155, R161: `PACK565`, the host operation `0x4` of three 8-bit channels, is legal in every phase, returns the packed
word and writes only `PIX_OUT`. -/
def Obligations.Pack565ReturnsWord : Prop :=
  (∀ red green blue : Byte,
    decodeHost 4#4 [.nat red.toNat, .nat green.toNat, .nat blue.toNat] = .ok (.pack565 red green blue)) ∧
  ∀ (s : State) (b : Block) (red green blue : Byte), HostReady s b →
    exec (.pack565 red green blue) s = .next { s with
      block := some { b with pixOut := ((red.setWidth 16 >>> 3) <<< 11) ||| ((green.setWidth 16 >>> 2) <<< 5) |||
        (blue.setWidth 16 >>> 3) }
      ret := some (.word (((red.setWidth 16 >>> 3) <<< 11) ||| ((green.setWidth 16 >>> 2) <<< 5) |||
        (blue.setWidth 16 >>> 3))) }

/-- R189, R184: any host operation issued while the block is busy takes the contract fault `BUSY_ISSUE` (bit 3) and runs
nothing. -/
def Obligations.BusyIssueFaults : Prop :=
  ∀ (s : State) (b : Block) (i : Instr), s.block = some b → b.faults = 0#5 → b.seq.op ≠ .none →
    isHostOp i = true → exec i s = .next { s with block := some { b with faults := 0b01000#5 } }

/-- R33, R184, R187: a block with a contract fault takes no further step and starts no operation. -/
def Obligations.FaultedBlockTakesNoStep : Prop :=
  ∀ (s : State) (b : Block), s.block = some b → b.faults ≠ 0#5 →
    step s = .fault (.contractFaulted b.faults) ∧ ∀ i, exec i s = .fault (.contractFaulted b.faults)

/-- R40: where no block exists, no operation but `CONSTRUCT` is defined. R100, and U19 of 93_implementation_defined.md: once an
acquisition has failed, `CONSTRUCT` is not either. That each is a refusal is log entry 11. -/
def Obligations.NoBlockNoOperation : Prop :=
  ∀ (s : State) (i : Instr), s.block = none → (isConstruct i = false ∨ s.acquisitionFailed = true) →
    exec i s = .refused .noBlock

/-! ## Operand forms -/

/-- R156, R157: the packed word is the law's, its fields are the channels' top bits, `|` there equals `+`, and it is
representable in 16 bits. -/
def Obligations.PackedWordLaw : Prop :=
  ∀ r g b : Byte,
    (pack565 r g b).toNat = ((r.toNat >>> 3) <<< 11) ||| ((g.toNat >>> 2) <<< 5) ||| (b.toNat >>> 3) ∧
    (pack565 r g b).toNat = (r.toNat >>> 3) * 2048 + (g.toNat >>> 2) * 32 + (b.toNat >>> 3) ∧
    r.toNat >>> 3 < 32 ∧ g.toNat >>> 2 < 64 ∧ b.toNat >>> 3 < 32 ∧ (r.toNat >>> 3) <<< 11 ≤ 0xF800 ∧
    (pack565 r g b).extractLsb' 11 5 = r.extractLsb' 3 5 ∧ (pack565 r g b).extractLsb' 5 6 = g.extractLsb' 2 6 ∧
    (pack565 r g b).extractLsb' 0 5 = b.extractLsb' 3 5 ∧ (pack565 r g b).toNat ≤ 0xFFFF ∧
    pack565 0xFF#8 0xFF#8 0xFF#8 = 0xFFFF#16

/-- R158: two triples pack to the same word exactly when their kept fields agree, and each word is the image of exactly
256 triples. -/
def Obligations.PackingIsLossy : Prop :=
  (∀ r g b r' g' b' : Byte, pack565 r g b = pack565 r' g' b' ↔
    r.extractLsb' 3 5 = r'.extractLsb' 3 5 ∧ g.extractLsb' 2 6 = g'.extractLsb' 2 6 ∧
      b.extractLsb' 3 5 = b'.extractLsb' 3 5) ∧
  (∀ w : Word16, ∃ f : Fin 256 → Byte × Byte × Byte, Function.Injective f ∧
    ∀ t : Byte × Byte × Byte, pack565 t.1 t.2.1 t.2.2 = w ↔ ∃ n, f n = t)

/-- R160: the first wire byte of a packed word is `(r[7:3], g[7:5])`, the second `(g[4:2], b[7:3])`, and
`WRITE_FRAME` sends the first and then the second as data. -/
def Obligations.PackedWordWireBytes : Prop :=
  ∀ r g b : Byte,
    hiByte (pack565 r g b) = r.extractLsb' 3 5 ++ g.extractLsb' 5 3 ∧
    loByte (pack565 r g b) = g.extractLsb' 2 3 ++ b.extractLsb' 3 5 ∧
    streamProg [r, g, b] =
      [(0b0001#4 ++ (r.extractLsb' 3 5 ++ g.extractLsb' 5 3 : Byte) : BitVec 12),
        (0b0001#4 ++ (g.extractLsb' 2 3 ++ b.extractLsb' 3 5 : Byte) : BitVec 12)]

/-- R74, R137: the window parameters of a dimension are start address 0 and end address one less than it, each high byte
first. -/
def Obligations.WindowParameters : Prop :=
  ∀ n : Nat, 1 ≤ n → n ≤ 65536 →
    ∃ hi lo : Byte, window4 n = [0x00#8, 0x00#8, hi, lo] ∧ hi.toNat = (n - 1) >>> 8 ∧
      lo.toNat = (n - 1) % 256 ∧ hi.toNat * 256 + lo.toNat = n - 1

/-- R104: `InitProg` is the reset pulse, the table's entries in order, and the wake-up, and has `8 + S` words. -/
def Obligations.InitProgWords : Prop :=
  ∀ (o : OpBytes) (cfg : Cfg),
    initProg o cfg =
      [0x200#12, 0x664#12, 0x201#12, 0x664#12] ++
      (cfg.initTable.map fun e => ((0b0000#4 ++ e.cmd : BitVec 12) ::
        e.params.map fun x => (0b0001#4 ++ x : BitVec 12))).flatten ++
      [(0b0000#4 ++ o.slpout : BitVec 12), 0x678#12, (0b0000#4 ++ o.dispon : BitVec 12), 0x401#12] ∧
    (initProg o cfg).length = 8 + (cfg.initTable.map fun e => 1 + e.params.length).sum

/-- R135, R142, R143, R144: `FrameProg` of a frame of the right size is the two windows, `RAMWR` and two data words a
pixel: it has `11 + 2*W*H` words, the word at `11 + 2*i` is the high byte of pixel `i`'s packed word and the one at
`12 + 2*i` its low byte. -/
def Obligations.FrameProgWords : Prop :=
  ∀ (o : OpBytes) (cfg : Cfg) (fb : List Byte), fb.length = 3 * cfg.w * cfg.h →
    (frameProg o cfg fb).length = 11 + 2 * (cfg.w * cfg.h) ∧
    (frameProg o cfg fb).take 11 =
      [(0b0000#4 ++ o.caset : BitVec 12), 0x100#12, 0x100#12,
        (0b0001#4 ++ BitVec.ofNat 8 ((cfg.w - 1) / 256) : BitVec 12),
        (0b0001#4 ++ BitVec.ofNat 8 (cfg.w - 1) : BitVec 12),
        (0b0000#4 ++ o.raset : BitVec 12), 0x100#12, 0x100#12,
        (0b0001#4 ++ BitVec.ofNat 8 ((cfg.h - 1) / 256) : BitVec 12),
        (0b0001#4 ++ BitVec.ofNat 8 (cfg.h - 1) : BitVec 12),
        (0b0000#4 ++ o.ramwr : BitVec 12)] ∧
    ∀ (i : Nat) (r g b : Byte), i < cfg.w * cfg.h →
      fb[3 * i]? = some r → fb[3 * i + 1]? = some g → fb[3 * i + 2]? = some b →
      (frameProg o cfg fb)[11 + 2 * i]? = some (0b0001#4 ++ hiByte (pack565 r g b)) ∧
      (frameProg o cfg fb)[12 + 2 * i]? = some (0b0001#4 ++ loByte (pack565 r g b))

/-- R152, R153: with the default index map, the resized image has `3*W*H` bytes, and each channel of its pixel `(x, y)` is
that channel of the source pixel `(NN(x, SW, W), NN(y, SH, H))`, which lies in the source image. -/
def Obligations.ResizeSamplesPixelCentres : Prop :=
  ∀ (p : Params) (img : Image) (w h : Nat), p.nnMap = [] → 1 ≤ img.sw → 1 ≤ img.sh →
    img.bytes.length = 3 * img.sw * img.sh →
    (resize p img w h).length = 3 * w * h ∧
    ∀ x y c : Nat, x < w → y < h → c < 3 →
      (2 * x + 1) * img.sw / (2 * w) < img.sw ∧ (2 * y + 1) * img.sh / (2 * h) < img.sh ∧
      (resize p img w h)[3 * (y * w + x) + c]? =
        img.bytes[3 * ((2 * y + 1) * img.sh / (2 * h) * img.sw + (2 * x + 1) * img.sw / (2 * w)) + c]?

/-! ## The step -/

/-- R83: with an operation in progress a step runs the instruction that the word at `SEQ.K` decodes to, after the packer's
work. R19, R142, R160: that work packs the pixel whose high byte the word is, `PIX_IN` then holding the pixel and `PIX_OUT` its
word, and does nothing before any other word or outside `WRITE_FRAME`; the moment is the model's choice (log entry 5). The
host's requests as a list in the state, and a second flow that lets a number of steps pass, are the model's choice (log entry
8): at the host's turn a step runs the next request, popped from the list, and a host whose flows all wait leaves the
sequencer's state alone. -/
def Obligations.StepRunsDecodedInstruction : Prop :=
  (∀ (s : State) (b : Block) (u : MicroWord) (i : Instr), MicroReady s b → s.overlapDue = false →
    b.seq.prog[b.seq.k]? = some u → decodeMicro s.params.ops u = .ok i →
    step s = exec i { s.tickHost with block := some b.pack }) ∧
  (∀ (b : Block) (i : Nat) (red green blue : Byte), b.seq.op = .writeFrame → b.seq.k = 11 + 2 * i →
    b.frame[3 * i]? = some red → b.frame[3 * i + 1]? = some green → b.frame[3 * i + 2]? = some blue →
    b.pack = { b with pixIn := red ++ green ++ blue, pixOut := pack565 red green blue }) ∧
  (∀ b : Block, (b.seq.op ≠ .writeFrame ∨ b.seq.k < 11 ∨ ∃ i, b.seq.k = 12 + 2 * i) → b.pack = b) ∧
  (∀ (s : State) (r : HostRequest) (rest : List HostRequest) (i : Instr), HostTurn s →
    s.host = r :: rest → decodeCall s r.call = .ok i → step s = exec i { s with host := rest }) ∧
  (∀ s : State, (∀ r ∈ s.host, r.flow = .blocking) → s.tickHost = s ∧ s.overlapDue = false)

/-- R94, R110: at the end of its list a host operation completes: `STATUS` is `(OK, 0)`, `SEQ` is cleared, `PHASE` becomes
`ACTIVE` for `INITIALIZE` alone, nothing is emitted and no line changes; the frame buffer is given back; the operation returns `OK`. -/
def Obligations.CompletionReturnsOk : Prop :=
  ∀ (s : State) (b : Block), s.block = some b → b.faults = 0#5 → b.seq.op ≠ .none →
    b.seq.k = b.seq.prog.length → s.overlapDue = false →
    ∃ t b', step s = .next t ∧ t.block = some b' ∧ b'.status = ⟨.ok, 0⟩ ∧ b'.seq = ⟨.none, [], 0⟩ ∧
      b'.phase = (if b.seq.op = .initializeOp then .active else b.phase) ∧ b'.trace = b.trace ∧
      b'.dc = b.dc ∧ b'.rst = b.rst ∧ b'.bl = b.bl ∧ b'.cfg = b.cfg ∧ b'.faults = b.faults ∧
      b'.frame = [] ∧ t.ret = some (.status .ok 0) ∧ t.answers = s.answers ∧ t.params = s.params

/-- R97: a word that decodes as `ILLEGAL` is refused: the step takes the contract fault `ILLEGAL_MICROOP` (bit 4), emits
nothing and runs nothing, and the step after it takes none. -/
def Obligations.IllegalWordFaults : Prop :=
  ∀ (s : State) (b : Block) (u : MicroWord) (e : DecodeError), MicroReady s b → s.overlapDue = false →
    b.seq.prog[b.seq.k]? = some u → decodeMicro s.params.ops u = .error e →
    step s = .next { s.tickHost with block := some { b with faults := 0b10000#5 } } ∧
    step { s.tickHost with block := some { b with faults := 0b10000#5 } } = .fault (.contractFaulted 0b10000#5)

/-- The model's choice (log entry 9): an idle block whose host has nothing to issue stays as it is. The spec has no such
step. -/
def Obligations.IdleBlockWaits : Prop :=
  ∀ (s : State) (b : Block), HostReady s b → s.host = [] → step s = .next s

/-- R40, R198: the values the spec gives the state after `CONSTRUCT`. -/
def Obligations.ResetValues : Prop :=
  ∃ b, State.reset.block = some b ∧ b.phase = .uninit ∧ b.dc = .unknown ∧ b.rst = .unknown ∧ b.bl = .unknown ∧
    b.seq = ⟨.none, [], 0⟩ ∧ b.status = ⟨.ok, 0⟩ ∧ b.faults = 0#5 ∧ b.busy = false ∧ b.trace = [] ∧
    b.frame = [] ∧ State.reset.acquisitionFailed = false ∧ State.reset.panel.AllUnknown

/-! ## Invariants and whole-machine rules -/

/-- R19, R25, R26, R30, R31, R46, R100, R104, R106, R108, R110, R112, R135, R149: every step keeps the machine's invariant,
from every state that meets it. When a pixel is packed (`packerInv`) is the model's choice (log entry 5). -/
def Obligations.StepKeepsInvariant : Prop :=
  ∀ s t : State, s.Inv → step s = .next t → t.Inv

/-- The invariant holds at reset. It rests on the model's own construction arguments at reset (log entry 3). -/
def Obligations.ResetMeetsInvariant : Prop := State.reset.Inv

/-- R27 to R29, R60: every step keeps the three line levels equal to those the trace shows. -/
def Obligations.StepKeepsLinesAsTraced : Prop :=
  ∀ s t : State, s.LinesInv → step s = .next t → t.LinesInv

/-- R40: at reset the line levels are those of the empty trace. -/
def Obligations.ResetLinesAsTraced : Prop := State.reset.LinesInv

/-- R69, R97, R31: from a state that meets the invariant no step meets an illegal word, and none finds `SEQ.K` past the end
of `SEQ.PROG`. -/
def Obligations.BlockNeverBuildsIllegalWord : Prop :=
  ∀ s : State, s.Inv →
    (∀ t b', step s = .next t → t.block = some b' → b'.hasFault .illegalMicroop = false) ∧
    ∀ k, step s ≠ .fault (.sequencerPastEnd k)

/-- R20: no instruction and no step changes the parameters, and no instruction but `CONSTRUCT` changes `CFG`. -/
def Obligations.ConfigurationIsFixed : Prop :=
  (∀ s t : State, step s = .next t → t.params = s.params) ∧
  (∀ (s t : State) (i : Instr), exec i s = .next t → t.params = s.params) ∧
  (∀ (s t : State) (i : Instr), isConstruct i = false → exec i s = .next t →
    ∃ b b', s.block = some b ∧ t.block = some b' ∧ b'.cfg = b.cfg)

/-- R35, R59: a step appends at most one event to `TRACE` and takes none away, but for a `CONSTRUCT` issued where a block
exists, whose new block has an empty one: that such a `CONSTRUCT` runs is the model's reading (log entry 10). -/
def Obligations.TraceIsAppendOnly : Prop :=
  ∀ (s t : State) (b b' : Block), step s = .next t → s.block = some b → t.block = some b' →
    (∃ es, b'.trace = b.trace ++ es ∧ es.length ≤ 1) ∨
      (b'.trace = [] ∧ b'.phase = .uninit ∧ b'.seq = ⟨.none, [], 0⟩ ∧ b'.faults = 0#5)

/-- R27, R28, R29: no instruction but `SET_RST` drives the reset line, none but `SET_BL` the backlight line, and none but
one that sends a byte the data/command line (`CONSTRUCT` makes a new block and drives none). -/
def Obligations.LinesHaveOneWriter : Prop :=
  ∀ (s t : State) (b b' : Block) (i : Instr), isConstruct i = false → s.block = some b → exec i s = .next t →
    t.block = some b' →
    ((∀ l, i ≠ .setRst l) → b'.rst = b.rst) ∧ ((∀ l, i ≠ .setBl l) → b'.bl = b.bl) ∧
      (byteSentBy s.params.ops i = none → b'.dc = b.dc)

/-- R149: while a `WRITE_FRAME` is in progress, a step of a state that meets the invariant leaves `RST`, `BL` and `PHASE`
as they are, at 1, 1 and `ACTIVE`, and the block is still there. -/
def Obligations.FrameDrivesOnlyDc : Prop :=
  ∀ (s t : State) (b : Block), s.Inv → s.block = some b → b.seq.op = .writeFrame → step s = .next t →
    ∃ b', t.block = some b' ∧ b'.rst = b.rst ∧ b'.bl = b.bl ∧ b'.rst = .high ∧ b'.bl = .high ∧
      b'.phase = .active

/-- R26: from `ACTIVE`, in a state that meets the invariant, `PHASE` never changes again, by any instruction but `CONSTRUCT`
and by any step that makes no new block. A `CONSTRUCT` issued where a block exists makes one, with a trace and a lifetime of its
own: that it runs is the model's reading (log entry 10). -/
def Obligations.ActiveIsFinal : Prop :=
  (∀ (s t : State) (b b' : Block) (i : Instr), s.Inv → s.block = some b → b.phase = .active →
    isConstruct i = false → exec i s = .next t → t.block = some b' → b'.phase = .active) ∧
  (∀ (s t : State) (b b' : Block), s.Inv → s.block = some b → b.phase = .active → step s = .next t →
    t.block = some b' → b'.phase = .active ∨ (b'.phase = .uninit ∧ b'.trace = [] ∧ b'.seq = ⟨.none, [], 0⟩))

/-! ## Runs of a host operation -/

/-- R111, R129, R107, R115: an `INITIALIZE` at its start, every byte answered `OK` and no second host flow, reaches
completion in `9 + S` steps, and leaves what R111 says: the events of its list, exactly. -/
def Obligations.InitializeReachesActive : Prop :=
  ∀ (s : State) (b : Block) (rest : List Answer),
    s.block = some b → b.faults = 0#5 → b.seq = ⟨.initializeOp, initProg s.params.ops b.cfg, 0⟩ →
    (∀ r ∈ s.host, r.flow = .blocking) →
    s.answers = List.replicate ((b.cfg.initTable.map fun e => 1 + e.params.length).sum + 2) .ok ++ rest →
    ∃ t b', Host.Core.run Sys2Proof.core (9 + (b.cfg.initTable.map fun e => 1 + e.params.length).sum) s = .next t ∧
      t.block = some b' ∧ b'.phase = .active ∧ b'.rst = .high ∧ b'.bl = .high ∧ b'.dc = .low ∧
      b'.status = ⟨.ok, 0⟩ ∧ b'.seq = ⟨.none, [], 0⟩ ∧ b'.faults = 0#5 ∧ b'.cfg = b.cfg ∧
      b'.trace = b.trace ++ tagged .initializeOp (initEvents s.params.ops b.cfg) ∧
      (initEvents s.params.ops b.cfg).length = 8 + (b.cfg.initTable.map fun e => 1 + e.params.length).sum ∧
      t.ret = some (.status .ok 0) ∧ t.answers = rest ∧ t.host = s.host ∧ t.params = s.params

/-- R145, R146, R144: a `WRITE_FRAME` at its start, every byte answered `OK` and no second host flow, completes in
`12 + 2*W*H` steps and leaves what R146 says: exactly the `11 + 2*W*H` byte events of its list. -/
def Obligations.WriteFrameStreamsFrame : Prop :=
  ∀ (s : State) (b : Block) (fb : List Byte) (rest : List Answer),
    s.block = some b → b.faults = 0#5 → b.cfg.legal → fb.length = 3 * b.cfg.w * b.cfg.h → b.phase = .active →
    b.seq = ⟨.writeFrame, frameProg s.params.ops b.cfg fb, 0⟩ → (∀ r ∈ s.host, r.flow = .blocking) →
    s.answers = List.replicate (11 + 2 * (b.cfg.w * b.cfg.h)) .ok ++ rest →
    ∃ t b', Host.Core.run Sys2Proof.core (12 + 2 * (b.cfg.w * b.cfg.h)) s = .next t ∧
      t.block = some b' ∧ b'.status = ⟨.ok, 0⟩ ∧ b'.phase = .active ∧ b'.dc = .high ∧ b'.rst = b.rst ∧
      b'.bl = b.bl ∧ b'.seq = ⟨.none, [], 0⟩ ∧ b'.faults = 0#5 ∧
      b'.trace = b.trace ++ tagged .writeFrame (frameEvents s.params.ops b.cfg fb) ∧
      (frameEvents s.params.ops b.cfg fb).length = 11 + 2 * (b.cfg.w * b.cfg.h) ∧
      t.ret = some (.status .ok 0) ∧ t.answers = rest ∧ t.host = s.host ∧ t.params = s.params

/-- R147, R185: a `WRITE_FRAME` whose byte of index `n` fails ends there: `STATUS` is `(TRANSFER_ERROR, n)`, the trace has
the `n` byte events before it and then the lost byte, `PHASE` stays `ACTIVE`, and nothing after it ran. -/
def Obligations.WriteFrameAbortIsPrecise : Prop :=
  ∀ (s : State) (b : Block) (fb : List Byte) (n : Nat) (rest : List Answer),
    s.block = some b → b.faults = 0#5 → fb.length = 3 * b.cfg.w * b.cfg.h → b.phase = .active →
    b.seq = ⟨.writeFrame, frameProg s.params.ops b.cfg fb, 0⟩ → (∀ r ∈ s.host, r.flow = .blocking) →
    n < 11 + 2 * (b.cfg.w * b.cfg.h) → s.answers = List.replicate n .ok ++ .fail :: rest →
    ∃ t b' dc v, Host.Core.run Sys2Proof.core (n + 1) s = .next t ∧ t.block = some b' ∧
      b'.status = ⟨.transferError, n⟩ ∧ b'.phase = .active ∧ b'.seq = ⟨.none, [], 0⟩ ∧
      (frameEvents s.params.ops b.cfg fb)[n]? = some (.byte dc v) ∧
      b'.dc = (if dc = 0#1 then .low else .high) ∧ b'.rst = b.rst ∧ b'.bl = b.bl ∧ b'.faults = 0#5 ∧
      b'.trace = b.trace ++ tagged .writeFrame ((frameEvents s.params.ops b.cfg fb).take n ++ [.lost dc v]) ∧
      t.ret = some (.status .transferError n) ∧ t.answers = rest

/-! ## The panel receiver -/

/-- R167, R204: a reset pulse with both waits leaves the reset state, from whatever state. A pulse whose reset line was 0 for
less than 100 ms leaves every field unknown; so does, after a pulse of whatever length, a byte or a new `Rst(0)` less than
100 ms after the line went to 1 (the `Rst(0)` is the model's reading, log entry 18), and a byte while the line is 0. -/
def Obligations.PanelHardwareReset : Prop :=
  ∀ (p : Params) (v : Variant) (q : Panel) (op : SeqOp) (a c : BitVec 9),
    (100 ≤ a.toNat → 100 ≤ c.toNat →
      ∃ r, r = Panel.fold p v q (tagged op [.rst 0#1, .delay a, .rst 1#1, .delay c]) ∧
        r.sleep = some .sleepIn ∧ r.disp = some .off ∧ r.mode = some .idle ∧ r.colmod = none ∧ r.madctl = none ∧
        r.inv = none ∧ r.regs = [] ∧ r.xs = none ∧ r.xe = none ∧ r.ys = none ∧ r.ye = none ∧ r.px = none ∧
        r.py = none ∧ r.gram = []) ∧
    (a.toNat < 100 → q.lowFor = none →
      (Panel.fold p v q (tagged op [.rst 0#1, .delay a, .rst 1#1, .delay c])).AllUnknown) ∧
    (c.toNat < 100 →
      (∀ (dc : Bit) (x : Byte),
        (Panel.fold p v q (tagged op [.rst 0#1, .delay a, .rst 1#1, .delay c, .byte dc x])).AllUnknown) ∧
      (Panel.fold p v q (tagged op [.rst 0#1, .delay a, .rst 1#1, .delay c, .rst 0#1])).AllUnknown) ∧
    (∀ (dc : Bit) (x : Byte), (Panel.fold p v q (tagged op [.rst 0#1, .byte dc x])).AllUnknown)

/-- R174, R175: a byte lost in `INITIALIZE` makes every field unknown; one lost in `WRITE_FRAME` makes the window, the
pointer, `MODE` and `GRAM` unknown and keeps the configuration, unless it comes while the reset line is 0 or before a wait of
R167, R204 or R170 has passed: then every field is unknown, since the panel may have received it (R85; log entry 18). A
command that is none of the named ones nor in `CONFIG_CMDS` makes every field unknown. -/
def Obligations.PanelForgets : Prop :=
  ∀ (p : Params) (v : Variant) (q : Panel) (dc : Bit) (b : Byte) (op : SeqOp),
    (q.event p v ⟨.initializeOp, .lost dc b⟩).AllUnknown ∧
    (∃ r, r = q.event p v ⟨.writeFrame, .lost dc b⟩ ∧ (q.tooEarly = false → q.SameConfig r) ∧ r.gram = [] ∧
      r.xs = none ∧ r.xe = none ∧ r.ys = none ∧ r.ye = none ∧ r.px = none ∧ r.py = none ∧ r.mode = none) ∧
    (q.tooEarly = true → (q.event p v ⟨op, .lost dc b⟩).AllUnknown) ∧
    ((q.rstLevel = .low ∨ (∃ n, q.highFor = some n ∧ n < 100) ∨ (∃ n, q.wakeFor = some n ∧ n < 120)) ↔
      q.tooEarly = true) ∧
    (b ∉ [p.ops.ramwr, p.ops.slpout, p.ops.dispon, p.ops.invon, p.ops.invoff, p.ops.caset, p.ops.raset] →
      b ∉ configCmds p v → (q.event p v ⟨op, .byte 0#1 b⟩).AllUnknown)

/-- R165: every event keeps the panel's frame memory and registers in canonical form, from every state whose are, and the
initial ones are. -/
def Obligations.PanelMapsStayCanonical : Prop :=
  (∀ (p : Params) (v : Variant) (q : Panel) (e : TraceEntry), Memory.wf q.gram = true → Cells.wf q.regs = true →
    Memory.wf (q.event p v e).gram = true ∧ Cells.wf (q.event p v e).regs = true) ∧
  Memory.wf Panel.initial.gram = true ∧ Cells.wf Panel.initial.regs = true

/-- R167 to R170: the events of a successful `INITIALIZE` whose table passes the checks and holds only commands the receiver
knows leave a panel that is awake, on and lit, with a good pixel format and orientation, ready for a byte. -/
def Obligations.BringUpLightsPanel : Prop :=
  ∀ (p : Params) (v : Variant) (q : Panel) (cfg : Cfg), p.ops.distinct = true →
    tNotOwned p.ops cfg.initTable = true → tColmod p cfg.initTable = true → tMadctl p v cfg.initTable = true →
    (∀ e ∈ cfg.initTable, e.cmd ∈ configCmds p v ∨ e.cmd = p.ops.invon ∨ e.cmd = p.ops.invoff) →
    ∃ r, r = Panel.fold p v q (tagged .initializeOp (initEvents p.ops cfg)) ∧
      r.sleep = some .sleepOut ∧ r.disp = some .on ∧ r.blLevel = .high ∧ r.shows = true ∧ r.mode = some .idle ∧
      r.tooEarly = false ∧ (∃ m ∈ p.madctlOk.get v, r.madctl = some m) ∧ ∃ c ∈ p.colmod16bpp, r.colmod = some c

/-- R168, R169, R171, R173: the events of a successful `WRITE_FRAME` paint the whole panel: every pixel of the frame memory
is the packed word of the frame buffer's pixel, and the configuration is unchanged. -/
def Obligations.FramePaintsPanel : Prop :=
  ∀ (p : Params) (v : Variant) (q : Panel) (cfg : Cfg) (fb : List Byte) (m c : Byte), p.ops.distinct = true →
    cfg.legal → fb.length = 3 * cfg.w * cfg.h → q.tooEarly = false → q.madctl = some m → m ∈ p.madctlOk.get v →
    q.colmod = some c → c ∈ p.colmod16bpp →
    ∃ r, r = Panel.fold p v q (tagged .writeFrame (frameEvents p.ops cfg fb)) ∧ q.SameConfig r ∧
      r.blLevel = q.blLevel ∧ r.xs = some 0#16 ∧ r.ys = some 0#16 ∧ r.xe = some (BitVec.ofNat 16 (cfg.w - 1)) ∧
      r.ye = some (BitVec.ofNat 16 (cfg.h - 1)) ∧ r.mode = some (.stream none) ∧
      ∀ (x y : Nat) (R G B : Byte), x < cfg.w → y < cfg.h → fb[3 * (y * cfg.w + x)]? = some R →
        fb[3 * (y * cfg.w + x) + 1]? = some G → fb[3 * (y * cfg.w + x) + 2]? = some B →
        r.gramAt x y = some (pack565 R G B)

/-- R177, the consequence for a good run: from whatever receiver state (so after failed `INITIALIZE`s too, R113), after a
successful `INITIALIZE`, any number of `WRITE_FRAME`s, each successful or aborted, and then a successful one, the panel shows
the last frame. The command bytes are taken as distinct, which R177 does not say (log entry 24). -/
def Obligations.GoodRunShowsFrame : Prop :=
  ∀ (p : Params) (q : Panel) (cfg : Cfg) (attempts : List (List Byte × Option Nat)) (fb : List Byte),
    p.ops.distinct = true →
    cfg.legal → tNotOwned p.ops cfg.initTable = true → tColmod p cfg.initTable = true →
    tMadctl p cfg.variant cfg.initTable = true →
    (∀ e ∈ cfg.initTable, e.cmd ∈ configCmds p cfg.variant ∨ e.cmd = p.ops.invon ∨ e.cmd = p.ops.invoff) →
    (∀ a ∈ attempts, a.1.length = 3 * cfg.w * cfg.h ∧ ∀ n, a.2 = some n → n < 11 + 2 * (cfg.w * cfg.h)) →
    fb.length = 3 * cfg.w * cfg.h →
    ∃ r, r = Panel.fold p cfg.variant q
        (tagged .initializeOp (initEvents p.ops cfg) ++
          (attempts.map fun a => tagged .writeFrame (attemptEvents p.ops cfg a)).flatten ++
          tagged .writeFrame (frameEvents p.ops cfg fb)) ∧
      r.sleep = some .sleepOut ∧ r.disp = some .on ∧ r.blLevel = .high ∧ r.shows = true ∧ r.xs = some 0#16 ∧ r.ys = some 0#16 ∧
      r.xe = some (BitVec.ofNat 16 (cfg.w - 1)) ∧ r.ye = some (BitVec.ofNat 16 (cfg.h - 1)) ∧
      ∀ (x y : Nat) (R G B : Byte), x < cfg.w → y < cfg.h → fb[3 * (y * cfg.w + x)]? = some R →
        fb[3 * (y * cfg.w + x) + 1]? = some G → fb[3 * (y * cfg.w + x) + 2]? = some B →
        r.gramAt x y = some (pack565 R G B)
end

