-- ==== Sys2Proof/Laws/Decode.lean ====
section
/-! SUPPORT. What the decoder reads from each form of word the encoder writes, and that a command byte is sent the same
whether a named row stands for it or not. -/

namespace Sys2Proof

theorem decodeMicro_wordCmd (o : OpBytes) (b : Byte) : decodeMicro o (wordCmd b) = .ok (decodeCmd o b) := by
  have h1 : microKind (wordCmd b) = 0#3 := by revert b; decide
  have h2 : microDc (wordCmd b) = 0#1 := by revert b; decide
  have h3 : microByte (wordCmd b) = b := by revert b; decide
  simp [decodeMicro, h1, h2, h3]

theorem decodeMicro_wordDat (o : OpBytes) (b : Byte) : decodeMicro o (wordDat b) = .ok (.writeData b) := by
  have h1 : microKind (wordDat b) = 0#3 := by revert b; decide
  have h2 : microDc (wordDat b) = 1#1 := by revert b; decide
  have h3 : microByte (wordDat b) = b := by revert b; decide
  simp [decodeMicro, h1, h2, h3]

theorem decodeMicro_wordRst (o : OpBytes) (l : Bit) : decodeMicro o (wordRst l) = .ok (.setRst l) := by
  have h1 : microKind (wordRst l) = 1#3 := by revert l; decide
  have h2 : microZero (wordRst l) = 0#8 := by revert l; decide
  have h3 : microLevel (wordRst l) = l := by revert l; decide
  simp [decodeMicro, h1, h2, h3]

theorem decodeMicro_wordBl (o : OpBytes) (l : Bit) : decodeMicro o (wordBl l) = .ok (.setBl l) := by
  have h1 : microKind (wordBl l) = 2#3 := by revert l; decide
  have h2 : microZero (wordBl l) = 0#8 := by revert l; decide
  have h3 : microLevel (wordBl l) = l := by revert l; decide
  simp [decodeMicro, h1, h2, h3]

theorem decodeMicro_wordDelay (o : OpBytes) (ms : BitVec 9) : decodeMicro o (wordDelay ms) = .ok (.delay ms) := by
  have h1 : microKind (wordDelay ms) = 3#3 := by revert ms; decide
  have h2 : microMs (wordDelay ms) = ms := by revert ms; decide
  simp [decodeMicro, h1, h2]

namespace Machine

/-- Running what a command byte decodes to sends that byte: the named rows are refinements of `WRITE_CMD` (R82). -/
theorem exec_decodeCmd (s : State) (b : Byte) : exec (decodeCmd s.params.ops b) s = sendCmd b s := by
  unfold decodeCmd
  split
  · rename_i row h
    have hmem := List.mem_of_find?_eq_some h
    have hb : row.1 = b := by simpa using List.find?_some h
    subst hb
    simp only [namedCmds, List.mem_cons, List.not_mem_nil, or_false] at hmem
    rcases hmem with h | h | h | h | h | h | h | h | h | h | h | h | h | h | h <;> subst h <;> rfl
  · rfl

end Machine

end Sys2Proof
end

