-- ==== Sys2Proof/Laws/Memory.lean ====
section
/-! SUPPORT. The canonical form of the panel's maps: every operation on them keeps it, a read after a write gives the
value written, and other keys are left alone. -/

namespace Sys2Proof.Machine

/-- The canonical form as the library's sorted lists. -/
theorem Cells.wf_iff {α : Type} (m : Cells α) : m.wf = true ↔ m.Pairwise (fun c d => c.1 < d.1) := by
  induction m with
  | nil => simp [Cells.wf]
  | cons c m ih =>
    cases m with
    | nil => simp [Cells.wf]
    | cons d m =>
      simp only [Cells.wf, Bool.and_eq_true, decide_eq_true_eq, ih, List.pairwise_cons (a := c)]
      constructor
      · rintro ⟨h, hm⟩
        refine ⟨fun e he => ?_, hm⟩
        rcases List.mem_cons.mp he with rfl | he
        · exact h
        · exact Nat.lt_trans h ((List.pairwise_cons.mp hm).1 e he)
      · rintro ⟨h, hm⟩
        exact ⟨h d (by simp), hm⟩

/-- A written map lists nothing but the key written and what it listed. -/
theorem Cells.mem_write {α : Type} {m : Cells α} {k : Nat} {v : α} {c : Nat × α} (h : c ∈ m.write k v) :
    c = (k, v) ∨ c ∈ m := by
  induction m with
  | nil => simpa [Cells.write] using h
  | cons d m ih =>
    simp only [Cells.write] at h
    split at h
    · simpa using h
    · split at h
      · rcases List.mem_cons.mp h with h | h
        · exact .inl h
        · exact .inr (List.mem_cons_of_mem _ h)
      · rcases List.mem_cons.mp h with h | h
        · exact .inr (h ▸ List.mem_cons_self)
        · exact (ih h).imp_right (List.mem_cons_of_mem _)

/-- A write keeps the canonical form. -/
theorem Cells.write_wf {α : Type} {m : Cells α} {k : Nat} {v : α} (h : m.wf = true) : (m.write k v).wf = true := by
  rw [Cells.wf_iff] at h ⊢
  induction m with
  | nil => simp [Cells.write]
  | cons d m ih =>
    obtain ⟨hd, hm⟩ := List.pairwise_cons.mp h
    simp only [Cells.write]
    split
    · refine List.pairwise_cons.mpr ⟨fun e he => ?_, h⟩
      rcases List.mem_cons.mp he with rfl | he
      · assumption
      · exact Nat.lt_trans ‹_› (hd e he)
    · split
      · rename_i hk
        exact List.pairwise_cons.mpr ⟨fun e he => by simpa [hk] using hd e he, hm⟩
      · refine List.pairwise_cons.mpr ⟨fun e he => ?_, ih hm⟩
        rcases Cells.mem_write he with rfl | he
        · simp only; omega
        · exact hd e he

theorem Cells.mem_forget {α : Type} {m : Cells α} {k : Nat} {c : Nat × α} (h : c ∈ m.forget k) : c ∈ m := by
  induction m with
  | nil => simp [Cells.forget] at h
  | cons d m ih =>
    simp only [Cells.forget] at h
    split at h
    · exact List.mem_cons_of_mem _ h
    · rcases List.mem_cons.mp h with h | h
      · exact h ▸ List.mem_cons_self
      · exact List.mem_cons_of_mem _ (ih h)

/-- Making a key unknown keeps the canonical form. -/
theorem Cells.forget_wf {α : Type} {m : Cells α} {k : Nat} (h : m.wf = true) : (m.forget k).wf = true := by
  rw [Cells.wf_iff] at h ⊢
  induction m with
  | nil => simp [Cells.forget]
  | cons d m ih =>
    obtain ⟨hd, hm⟩ := List.pairwise_cons.mp h
    simp only [Cells.forget]
    split
    · exact hm
    · exact List.pairwise_cons.mpr ⟨fun e he => hd e (Cells.mem_forget he), ih hm⟩

/-- A key below every listed key is unlisted. -/
theorem Cells.read_of_below {α : Type} {m : Cells α} {k : Nat} (h : ∀ c ∈ m, k < c.1) : m.read k = none := by
  induction m with
  | nil => rfl
  | cons d m ih =>
    have := h d (by simp)
    simp only [Cells.read]
    rw [if_neg (by omega)]
    exact ih fun c hc => h c (List.mem_cons_of_mem _ hc)

/-- A read after a write: the value written at its key, what was there at every other. -/
theorem Cells.read_write {α : Type} (m : Cells α) (k j : Nat) (v : α) :
    (m.write k v).read j = if j = k then some v else m.read j := by
  induction m with
  | nil => simp [Cells.write, Cells.read]
  | cons d m ih =>
    simp only [Cells.write]
    split
    · simp [Cells.read]
    · split
      · simp only [Cells.read]; split <;> simp_all
      · simp only [Cells.read, ih]; split <;> split <;> simp_all

/-- A key made unknown reads as unknown, every other as before. -/
theorem Cells.read_forget {α : Type} {m : Cells α} (h : m.wf = true) (k j : Nat) :
    (m.forget k).read j = if j = k then none else m.read j := by
  rw [Cells.wf_iff] at h
  induction m with
  | nil => simp [Cells.forget, Cells.read]
  | cons d m ih =>
    obtain ⟨hd, hm⟩ := List.pairwise_cons.mp h
    simp only [Cells.forget]
    split
    · rename_i hk
      by_cases hj : j = k
      · rw [if_pos hj, Cells.read_of_below (fun c hc => by have := hd c hc; omega)]
      · rw [if_neg hj]; simp [Cells.read, show j ≠ d.1 by omega]
    · simp only [Cells.read, ih hm]; split <;> split <;> simp_all

/-- The frame memory of the reset state is in canonical form. -/
theorem reset_memory_wf : Memory.wf State.reset.panel.gram = true := rfl

end Sys2Proof.Machine
end

