-- ==== Sys2Proof/Laws/State.lean ====
section
/-! SUPPORT. One lemma per field per update of the block and of the state, so that no proof unfolds a record update. -/

namespace Sys2Proof.Machine

@[simp] theorem Block.setDc_cfg (b : Block) (l : Level) : (b.setDc l).cfg = b.cfg := rfl
@[simp] theorem Block.setDc_phase (b : Block) (l : Level) : (b.setDc l).phase = b.phase := rfl
@[simp] theorem Block.setDc_dc (b : Block) (l : Level) : (b.setDc l).dc = l := rfl
@[simp] theorem Block.setDc_rst (b : Block) (l : Level) : (b.setDc l).rst = b.rst := rfl
@[simp] theorem Block.setDc_bl (b : Block) (l : Level) : (b.setDc l).bl = b.bl := rfl
@[simp] theorem Block.setDc_seq (b : Block) (l : Level) : (b.setDc l).seq = b.seq := rfl
@[simp] theorem Block.setDc_status (b : Block) (l : Level) : (b.setDc l).status = b.status := rfl
@[simp] theorem Block.setDc_faults (b : Block) (l : Level) : (b.setDc l).faults = b.faults := rfl
@[simp] theorem Block.setDc_trace (b : Block) (l : Level) : (b.setDc l).trace = b.trace := rfl
@[simp] theorem Block.setDc_frame (b : Block) (l : Level) : (b.setDc l).frame = b.frame := rfl
@[simp] theorem Block.setDc_pixIn (b : Block) (l : Level) : (b.setDc l).pixIn = b.pixIn := rfl
@[simp] theorem Block.setDc_pixOut (b : Block) (l : Level) : (b.setDc l).pixOut = b.pixOut := rfl
@[simp] theorem Block.setDc_byteOut (b : Block) (l : Level) : (b.setDc l).byteOut = b.byteOut := rfl

@[simp] theorem Block.setRst_cfg (b : Block) (l : Level) : (b.setRst l).cfg = b.cfg := rfl
@[simp] theorem Block.setRst_phase (b : Block) (l : Level) : (b.setRst l).phase = b.phase := rfl
@[simp] theorem Block.setRst_dc (b : Block) (l : Level) : (b.setRst l).dc = b.dc := rfl
@[simp] theorem Block.setRst_rst (b : Block) (l : Level) : (b.setRst l).rst = l := rfl
@[simp] theorem Block.setRst_bl (b : Block) (l : Level) : (b.setRst l).bl = b.bl := rfl
@[simp] theorem Block.setRst_seq (b : Block) (l : Level) : (b.setRst l).seq = b.seq := rfl
@[simp] theorem Block.setRst_status (b : Block) (l : Level) : (b.setRst l).status = b.status := rfl
@[simp] theorem Block.setRst_faults (b : Block) (l : Level) : (b.setRst l).faults = b.faults := rfl
@[simp] theorem Block.setRst_trace (b : Block) (l : Level) : (b.setRst l).trace = b.trace := rfl
@[simp] theorem Block.setRst_frame (b : Block) (l : Level) : (b.setRst l).frame = b.frame := rfl
@[simp] theorem Block.setRst_pixIn (b : Block) (l : Level) : (b.setRst l).pixIn = b.pixIn := rfl
@[simp] theorem Block.setRst_pixOut (b : Block) (l : Level) : (b.setRst l).pixOut = b.pixOut := rfl
@[simp] theorem Block.setRst_byteOut (b : Block) (l : Level) : (b.setRst l).byteOut = b.byteOut := rfl

@[simp] theorem Block.setBl_cfg (b : Block) (l : Level) : (b.setBl l).cfg = b.cfg := rfl
@[simp] theorem Block.setBl_phase (b : Block) (l : Level) : (b.setBl l).phase = b.phase := rfl
@[simp] theorem Block.setBl_dc (b : Block) (l : Level) : (b.setBl l).dc = b.dc := rfl
@[simp] theorem Block.setBl_rst (b : Block) (l : Level) : (b.setBl l).rst = b.rst := rfl
@[simp] theorem Block.setBl_bl (b : Block) (l : Level) : (b.setBl l).bl = l := rfl
@[simp] theorem Block.setBl_seq (b : Block) (l : Level) : (b.setBl l).seq = b.seq := rfl
@[simp] theorem Block.setBl_status (b : Block) (l : Level) : (b.setBl l).status = b.status := rfl
@[simp] theorem Block.setBl_faults (b : Block) (l : Level) : (b.setBl l).faults = b.faults := rfl
@[simp] theorem Block.setBl_trace (b : Block) (l : Level) : (b.setBl l).trace = b.trace := rfl
@[simp] theorem Block.setBl_frame (b : Block) (l : Level) : (b.setBl l).frame = b.frame := rfl
@[simp] theorem Block.setBl_pixIn (b : Block) (l : Level) : (b.setBl l).pixIn = b.pixIn := rfl
@[simp] theorem Block.setBl_pixOut (b : Block) (l : Level) : (b.setBl l).pixOut = b.pixOut := rfl
@[simp] theorem Block.setBl_byteOut (b : Block) (l : Level) : (b.setBl l).byteOut = b.byteOut := rfl

@[simp] theorem Block.setPhase_cfg (b : Block) (p : Phase) : (b.setPhase p).cfg = b.cfg := rfl
@[simp] theorem Block.setPhase_phase (b : Block) (p : Phase) : (b.setPhase p).phase = p := rfl
@[simp] theorem Block.setPhase_dc (b : Block) (p : Phase) : (b.setPhase p).dc = b.dc := rfl
@[simp] theorem Block.setPhase_rst (b : Block) (p : Phase) : (b.setPhase p).rst = b.rst := rfl
@[simp] theorem Block.setPhase_bl (b : Block) (p : Phase) : (b.setPhase p).bl = b.bl := rfl
@[simp] theorem Block.setPhase_seq (b : Block) (p : Phase) : (b.setPhase p).seq = b.seq := rfl
@[simp] theorem Block.setPhase_status (b : Block) (p : Phase) : (b.setPhase p).status = b.status := rfl
@[simp] theorem Block.setPhase_faults (b : Block) (p : Phase) : (b.setPhase p).faults = b.faults := rfl
@[simp] theorem Block.setPhase_trace (b : Block) (p : Phase) : (b.setPhase p).trace = b.trace := rfl
@[simp] theorem Block.setPhase_frame (b : Block) (p : Phase) : (b.setPhase p).frame = b.frame := rfl
@[simp] theorem Block.setPhase_pixIn (b : Block) (p : Phase) : (b.setPhase p).pixIn = b.pixIn := rfl
@[simp] theorem Block.setPhase_pixOut (b : Block) (p : Phase) : (b.setPhase p).pixOut = b.pixOut := rfl
@[simp] theorem Block.setPhase_byteOut (b : Block) (p : Phase) : (b.setPhase p).byteOut = b.byteOut := rfl

@[simp] theorem Block.setSeq_cfg (b : Block) (q : Seq) : (b.setSeq q).cfg = b.cfg := rfl
@[simp] theorem Block.setSeq_phase (b : Block) (q : Seq) : (b.setSeq q).phase = b.phase := rfl
@[simp] theorem Block.setSeq_dc (b : Block) (q : Seq) : (b.setSeq q).dc = b.dc := rfl
@[simp] theorem Block.setSeq_rst (b : Block) (q : Seq) : (b.setSeq q).rst = b.rst := rfl
@[simp] theorem Block.setSeq_bl (b : Block) (q : Seq) : (b.setSeq q).bl = b.bl := rfl
@[simp] theorem Block.setSeq_seq (b : Block) (q : Seq) : (b.setSeq q).seq = q := rfl
@[simp] theorem Block.setSeq_status (b : Block) (q : Seq) : (b.setSeq q).status = b.status := rfl
@[simp] theorem Block.setSeq_faults (b : Block) (q : Seq) : (b.setSeq q).faults = b.faults := rfl
@[simp] theorem Block.setSeq_trace (b : Block) (q : Seq) : (b.setSeq q).trace = b.trace := rfl
@[simp] theorem Block.setSeq_frame (b : Block) (q : Seq) : (b.setSeq q).frame = b.frame := rfl
@[simp] theorem Block.setSeq_pixIn (b : Block) (q : Seq) : (b.setSeq q).pixIn = b.pixIn := rfl
@[simp] theorem Block.setSeq_pixOut (b : Block) (q : Seq) : (b.setSeq q).pixOut = b.pixOut := rfl
@[simp] theorem Block.setSeq_byteOut (b : Block) (q : Seq) : (b.setSeq q).byteOut = b.byteOut := rfl

@[simp] theorem Block.setStatus_cfg (b : Block) (t : Status) : (b.setStatus t).cfg = b.cfg := rfl
@[simp] theorem Block.setStatus_phase (b : Block) (t : Status) : (b.setStatus t).phase = b.phase := rfl
@[simp] theorem Block.setStatus_dc (b : Block) (t : Status) : (b.setStatus t).dc = b.dc := rfl
@[simp] theorem Block.setStatus_rst (b : Block) (t : Status) : (b.setStatus t).rst = b.rst := rfl
@[simp] theorem Block.setStatus_bl (b : Block) (t : Status) : (b.setStatus t).bl = b.bl := rfl
@[simp] theorem Block.setStatus_seq (b : Block) (t : Status) : (b.setStatus t).seq = b.seq := rfl
@[simp] theorem Block.setStatus_status (b : Block) (t : Status) : (b.setStatus t).status = t := rfl
@[simp] theorem Block.setStatus_faults (b : Block) (t : Status) : (b.setStatus t).faults = b.faults := rfl
@[simp] theorem Block.setStatus_trace (b : Block) (t : Status) : (b.setStatus t).trace = b.trace := rfl
@[simp] theorem Block.setStatus_frame (b : Block) (t : Status) : (b.setStatus t).frame = b.frame := rfl
@[simp] theorem Block.setStatus_pixIn (b : Block) (t : Status) : (b.setStatus t).pixIn = b.pixIn := rfl
@[simp] theorem Block.setStatus_pixOut (b : Block) (t : Status) : (b.setStatus t).pixOut = b.pixOut := rfl
@[simp] theorem Block.setStatus_byteOut (b : Block) (t : Status) : (b.setStatus t).byteOut = b.byteOut := rfl

@[simp] theorem Block.addFaults_cfg (b : Block) (m : BitVec 5) : (b.addFaults m).cfg = b.cfg := rfl
@[simp] theorem Block.addFaults_phase (b : Block) (m : BitVec 5) : (b.addFaults m).phase = b.phase := rfl
@[simp] theorem Block.addFaults_dc (b : Block) (m : BitVec 5) : (b.addFaults m).dc = b.dc := rfl
@[simp] theorem Block.addFaults_rst (b : Block) (m : BitVec 5) : (b.addFaults m).rst = b.rst := rfl
@[simp] theorem Block.addFaults_bl (b : Block) (m : BitVec 5) : (b.addFaults m).bl = b.bl := rfl
@[simp] theorem Block.addFaults_seq (b : Block) (m : BitVec 5) : (b.addFaults m).seq = b.seq := rfl
@[simp] theorem Block.addFaults_status (b : Block) (m : BitVec 5) : (b.addFaults m).status = b.status := rfl
@[simp] theorem Block.addFaults_faults (b : Block) (m : BitVec 5) : (b.addFaults m).faults = b.faults ||| m := rfl
@[simp] theorem Block.addFaults_trace (b : Block) (m : BitVec 5) : (b.addFaults m).trace = b.trace := rfl
@[simp] theorem Block.addFaults_frame (b : Block) (m : BitVec 5) : (b.addFaults m).frame = b.frame := rfl
@[simp] theorem Block.addFaults_pixIn (b : Block) (m : BitVec 5) : (b.addFaults m).pixIn = b.pixIn := rfl
@[simp] theorem Block.addFaults_pixOut (b : Block) (m : BitVec 5) : (b.addFaults m).pixOut = b.pixOut := rfl
@[simp] theorem Block.addFaults_byteOut (b : Block) (m : BitVec 5) : (b.addFaults m).byteOut = b.byteOut := rfl

@[simp] theorem Block.emit_cfg (b : Block) (e : WireEvent) : (b.emit e).cfg = b.cfg := rfl
@[simp] theorem Block.emit_phase (b : Block) (e : WireEvent) : (b.emit e).phase = b.phase := rfl
@[simp] theorem Block.emit_dc (b : Block) (e : WireEvent) : (b.emit e).dc = b.dc := rfl
@[simp] theorem Block.emit_rst (b : Block) (e : WireEvent) : (b.emit e).rst = b.rst := rfl
@[simp] theorem Block.emit_bl (b : Block) (e : WireEvent) : (b.emit e).bl = b.bl := rfl
@[simp] theorem Block.emit_seq (b : Block) (e : WireEvent) : (b.emit e).seq = b.seq := rfl
@[simp] theorem Block.emit_status (b : Block) (e : WireEvent) : (b.emit e).status = b.status := rfl
@[simp] theorem Block.emit_faults (b : Block) (e : WireEvent) : (b.emit e).faults = b.faults := rfl
@[simp] theorem Block.emit_trace (b : Block) (e : WireEvent) : (b.emit e).trace = b.trace ++ [⟨b.seq.op, e⟩] := rfl
@[simp] theorem Block.emit_frame (b : Block) (e : WireEvent) : (b.emit e).frame = b.frame := rfl
@[simp] theorem Block.emit_pixIn (b : Block) (e : WireEvent) : (b.emit e).pixIn = b.pixIn := rfl
@[simp] theorem Block.emit_pixOut (b : Block) (e : WireEvent) : (b.emit e).pixOut = b.pixOut := rfl
@[simp] theorem Block.emit_byteOut (b : Block) (e : WireEvent) : (b.emit e).byteOut = b.byteOut := rfl

@[simp] theorem Block.setByteOut_cfg (b : Block) (w : WireWord) : (b.setByteOut w).cfg = b.cfg := rfl
@[simp] theorem Block.setByteOut_phase (b : Block) (w : WireWord) : (b.setByteOut w).phase = b.phase := rfl
@[simp] theorem Block.setByteOut_dc (b : Block) (w : WireWord) : (b.setByteOut w).dc = b.dc := rfl
@[simp] theorem Block.setByteOut_rst (b : Block) (w : WireWord) : (b.setByteOut w).rst = b.rst := rfl
@[simp] theorem Block.setByteOut_bl (b : Block) (w : WireWord) : (b.setByteOut w).bl = b.bl := rfl
@[simp] theorem Block.setByteOut_seq (b : Block) (w : WireWord) : (b.setByteOut w).seq = b.seq := rfl
@[simp] theorem Block.setByteOut_status (b : Block) (w : WireWord) : (b.setByteOut w).status = b.status := rfl
@[simp] theorem Block.setByteOut_faults (b : Block) (w : WireWord) : (b.setByteOut w).faults = b.faults := rfl
@[simp] theorem Block.setByteOut_trace (b : Block) (w : WireWord) : (b.setByteOut w).trace = b.trace := rfl
@[simp] theorem Block.setByteOut_frame (b : Block) (w : WireWord) : (b.setByteOut w).frame = b.frame := rfl
@[simp] theorem Block.setByteOut_pixIn (b : Block) (w : WireWord) : (b.setByteOut w).pixIn = b.pixIn := rfl
@[simp] theorem Block.setByteOut_pixOut (b : Block) (w : WireWord) : (b.setByteOut w).pixOut = b.pixOut := rfl
@[simp] theorem Block.setByteOut_byteOut (b : Block) (w : WireWord) : (b.setByteOut w).byteOut = w := rfl

@[simp] theorem Block.setPixOut_cfg (b : Block) (p : Word16) : (b.setPixOut p).cfg = b.cfg := rfl
@[simp] theorem Block.setPixOut_phase (b : Block) (p : Word16) : (b.setPixOut p).phase = b.phase := rfl
@[simp] theorem Block.setPixOut_dc (b : Block) (p : Word16) : (b.setPixOut p).dc = b.dc := rfl
@[simp] theorem Block.setPixOut_rst (b : Block) (p : Word16) : (b.setPixOut p).rst = b.rst := rfl
@[simp] theorem Block.setPixOut_bl (b : Block) (p : Word16) : (b.setPixOut p).bl = b.bl := rfl
@[simp] theorem Block.setPixOut_seq (b : Block) (p : Word16) : (b.setPixOut p).seq = b.seq := rfl
@[simp] theorem Block.setPixOut_status (b : Block) (p : Word16) : (b.setPixOut p).status = b.status := rfl
@[simp] theorem Block.setPixOut_faults (b : Block) (p : Word16) : (b.setPixOut p).faults = b.faults := rfl
@[simp] theorem Block.setPixOut_trace (b : Block) (p : Word16) : (b.setPixOut p).trace = b.trace := rfl
@[simp] theorem Block.setPixOut_frame (b : Block) (p : Word16) : (b.setPixOut p).frame = b.frame := rfl
@[simp] theorem Block.setPixOut_pixIn (b : Block) (p : Word16) : (b.setPixOut p).pixIn = b.pixIn := rfl
@[simp] theorem Block.setPixOut_pixOut (b : Block) (p : Word16) : (b.setPixOut p).pixOut = p := rfl
@[simp] theorem Block.setPixOut_byteOut (b : Block) (p : Word16) : (b.setPixOut p).byteOut = b.byteOut := rfl

@[simp] theorem Block.setPixIn_cfg (b : Block) (p : PixInWord) : (b.setPixIn p).cfg = b.cfg := rfl
@[simp] theorem Block.setPixIn_phase (b : Block) (p : PixInWord) : (b.setPixIn p).phase = b.phase := rfl
@[simp] theorem Block.setPixIn_dc (b : Block) (p : PixInWord) : (b.setPixIn p).dc = b.dc := rfl
@[simp] theorem Block.setPixIn_rst (b : Block) (p : PixInWord) : (b.setPixIn p).rst = b.rst := rfl
@[simp] theorem Block.setPixIn_bl (b : Block) (p : PixInWord) : (b.setPixIn p).bl = b.bl := rfl
@[simp] theorem Block.setPixIn_seq (b : Block) (p : PixInWord) : (b.setPixIn p).seq = b.seq := rfl
@[simp] theorem Block.setPixIn_status (b : Block) (p : PixInWord) : (b.setPixIn p).status = b.status := rfl
@[simp] theorem Block.setPixIn_faults (b : Block) (p : PixInWord) : (b.setPixIn p).faults = b.faults := rfl
@[simp] theorem Block.setPixIn_trace (b : Block) (p : PixInWord) : (b.setPixIn p).trace = b.trace := rfl
@[simp] theorem Block.setPixIn_frame (b : Block) (p : PixInWord) : (b.setPixIn p).frame = b.frame := rfl
@[simp] theorem Block.setPixIn_pixIn (b : Block) (p : PixInWord) : (b.setPixIn p).pixIn = p := rfl
@[simp] theorem Block.setPixIn_pixOut (b : Block) (p : PixInWord) : (b.setPixIn p).pixOut = b.pixOut := rfl
@[simp] theorem Block.setPixIn_byteOut (b : Block) (p : PixInWord) : (b.setPixIn p).byteOut = b.byteOut := rfl

@[simp] theorem Block.setFrame_cfg (b : Block) (fb : List Byte) : (b.setFrame fb).cfg = b.cfg := rfl
@[simp] theorem Block.setFrame_phase (b : Block) (fb : List Byte) : (b.setFrame fb).phase = b.phase := rfl
@[simp] theorem Block.setFrame_dc (b : Block) (fb : List Byte) : (b.setFrame fb).dc = b.dc := rfl
@[simp] theorem Block.setFrame_rst (b : Block) (fb : List Byte) : (b.setFrame fb).rst = b.rst := rfl
@[simp] theorem Block.setFrame_bl (b : Block) (fb : List Byte) : (b.setFrame fb).bl = b.bl := rfl
@[simp] theorem Block.setFrame_seq (b : Block) (fb : List Byte) : (b.setFrame fb).seq = b.seq := rfl
@[simp] theorem Block.setFrame_status (b : Block) (fb : List Byte) : (b.setFrame fb).status = b.status := rfl
@[simp] theorem Block.setFrame_faults (b : Block) (fb : List Byte) : (b.setFrame fb).faults = b.faults := rfl
@[simp] theorem Block.setFrame_trace (b : Block) (fb : List Byte) : (b.setFrame fb).trace = b.trace := rfl
@[simp] theorem Block.setFrame_frame (b : Block) (fb : List Byte) : (b.setFrame fb).frame = fb := rfl
@[simp] theorem Block.setFrame_pixIn (b : Block) (fb : List Byte) : (b.setFrame fb).pixIn = b.pixIn := rfl
@[simp] theorem Block.setFrame_pixOut (b : Block) (fb : List Byte) : (b.setFrame fb).pixOut = b.pixOut := rfl
@[simp] theorem Block.setFrame_byteOut (b : Block) (fb : List Byte) : (b.setFrame fb).byteOut = b.byteOut := rfl

@[simp] theorem Block.packPixel_cfg (b : Block) (p : PixInWord) : (b.packPixel p).cfg = b.cfg := rfl
@[simp] theorem Block.packPixel_phase (b : Block) (p : PixInWord) : (b.packPixel p).phase = b.phase := rfl
@[simp] theorem Block.packPixel_dc (b : Block) (p : PixInWord) : (b.packPixel p).dc = b.dc := rfl
@[simp] theorem Block.packPixel_rst (b : Block) (p : PixInWord) : (b.packPixel p).rst = b.rst := rfl
@[simp] theorem Block.packPixel_bl (b : Block) (p : PixInWord) : (b.packPixel p).bl = b.bl := rfl
@[simp] theorem Block.packPixel_seq (b : Block) (p : PixInWord) : (b.packPixel p).seq = b.seq := rfl
@[simp] theorem Block.packPixel_status (b : Block) (p : PixInWord) : (b.packPixel p).status = b.status := rfl
@[simp] theorem Block.packPixel_faults (b : Block) (p : PixInWord) : (b.packPixel p).faults = b.faults := rfl
@[simp] theorem Block.packPixel_trace (b : Block) (p : PixInWord) : (b.packPixel p).trace = b.trace := rfl
@[simp] theorem Block.packPixel_frame (b : Block) (p : PixInWord) : (b.packPixel p).frame = b.frame := rfl
@[simp] theorem Block.packPixel_pixIn (b : Block) (p : PixInWord) : (b.packPixel p).pixIn = p := rfl
@[simp] theorem Block.packPixel_pixOut (b : Block) (p : PixInWord) : (b.packPixel p).pixOut = packPixIn p := rfl
@[simp] theorem Block.packPixel_byteOut (b : Block) (p : PixInWord) : (b.packPixel p).byteOut = b.byteOut := rfl

@[simp] theorem Block.advance_cfg (b : Block) : b.advance.cfg = b.cfg := rfl
@[simp] theorem Block.advance_phase (b : Block) : b.advance.phase = b.phaseAt (b.seq.k + 1) := rfl
@[simp] theorem Block.advance_dc (b : Block) : b.advance.dc = b.dc := rfl
@[simp] theorem Block.advance_rst (b : Block) : b.advance.rst = b.rst := rfl
@[simp] theorem Block.advance_bl (b : Block) : b.advance.bl = b.bl := rfl
@[simp] theorem Block.advance_seq (b : Block) : b.advance.seq = ⟨b.seq.op, b.seq.prog, b.seq.k + 1⟩ := rfl
@[simp] theorem Block.advance_status (b : Block) : b.advance.status = b.status := rfl
@[simp] theorem Block.advance_faults (b : Block) : b.advance.faults = b.faults := rfl
@[simp] theorem Block.advance_trace (b : Block) : b.advance.trace = b.trace := rfl
@[simp] theorem Block.advance_frame (b : Block) : b.advance.frame = b.frame := rfl
@[simp] theorem Block.advance_pixIn (b : Block) : b.advance.pixIn = b.pixIn := rfl
@[simp] theorem Block.advance_pixOut (b : Block) : b.advance.pixOut = b.pixOut := rfl
@[simp] theorem Block.advance_byteOut (b : Block) : b.advance.byteOut = b.byteOut := rfl

@[simp] theorem Block.freePixLatches_cfg (b : Block) (n : Nat) : (b.freePixLatches n).cfg = b.cfg := rfl
@[simp] theorem Block.freePixLatches_phase (b : Block) (n : Nat) : (b.freePixLatches n).phase = b.phase := rfl
@[simp] theorem Block.freePixLatches_dc (b : Block) (n : Nat) : (b.freePixLatches n).dc = b.dc := rfl
@[simp] theorem Block.freePixLatches_rst (b : Block) (n : Nat) : (b.freePixLatches n).rst = b.rst := rfl
@[simp] theorem Block.freePixLatches_bl (b : Block) (n : Nat) : (b.freePixLatches n).bl = b.bl := rfl
@[simp] theorem Block.freePixLatches_seq (b : Block) (n : Nat) : (b.freePixLatches n).seq = b.seq := rfl
@[simp] theorem Block.freePixLatches_status (b : Block) (n : Nat) : (b.freePixLatches n).status = b.status := rfl
@[simp] theorem Block.freePixLatches_faults (b : Block) (n : Nat) : (b.freePixLatches n).faults = b.faults := rfl
@[simp] theorem Block.freePixLatches_trace (b : Block) (n : Nat) : (b.freePixLatches n).trace = b.trace := rfl
@[simp] theorem Block.freePixLatches_frame (b : Block) (n : Nat) : (b.freePixLatches n).frame = b.frame := rfl
@[simp] theorem Block.freePixLatches_pixIn (b : Block) (n : Nat) : (b.freePixLatches n).pixIn = Config.freePixIn n := rfl
@[simp] theorem Block.freePixLatches_pixOut (b : Block) (n : Nat) : (b.freePixLatches n).pixOut = Config.freePixOut n := rfl
@[simp] theorem Block.freePixLatches_byteOut (b : Block) (n : Nat) : (b.freePixLatches n).byteOut = b.byteOut := rfl

@[simp] theorem Block.freeLatches_cfg (b : Block) (n : Nat) : (b.freeLatches n).cfg = b.cfg := rfl
@[simp] theorem Block.freeLatches_phase (b : Block) (n : Nat) : (b.freeLatches n).phase = b.phase := rfl
@[simp] theorem Block.freeLatches_dc (b : Block) (n : Nat) : (b.freeLatches n).dc = b.dc := rfl
@[simp] theorem Block.freeLatches_rst (b : Block) (n : Nat) : (b.freeLatches n).rst = b.rst := rfl
@[simp] theorem Block.freeLatches_bl (b : Block) (n : Nat) : (b.freeLatches n).bl = b.bl := rfl
@[simp] theorem Block.freeLatches_seq (b : Block) (n : Nat) : (b.freeLatches n).seq = b.seq := rfl
@[simp] theorem Block.freeLatches_status (b : Block) (n : Nat) : (b.freeLatches n).status = b.status := rfl
@[simp] theorem Block.freeLatches_faults (b : Block) (n : Nat) : (b.freeLatches n).faults = b.faults := rfl
@[simp] theorem Block.freeLatches_trace (b : Block) (n : Nat) : (b.freeLatches n).trace = b.trace := rfl
@[simp] theorem Block.freeLatches_frame (b : Block) (n : Nat) : (b.freeLatches n).frame = b.frame := rfl
@[simp] theorem Block.freeLatches_pixIn (b : Block) (n : Nat) : (b.freeLatches n).pixIn = Config.freePixIn n := rfl
@[simp] theorem Block.freeLatches_pixOut (b : Block) (n : Nat) : (b.freeLatches n).pixOut = Config.freePixOut n := rfl
@[simp] theorem Block.freeLatches_byteOut (b : Block) (n : Nat) : (b.freeLatches n).byteOut = Config.freeByteOut n := rfl

@[simp] theorem Block.present_cfg (b : Block) (d : Bit) (v : Byte) : (b.present d v).cfg = b.cfg := rfl
@[simp] theorem Block.present_phase (b : Block) (d : Bit) (v : Byte) : (b.present d v).phase = b.phase := rfl
@[simp] theorem Block.present_dc (b : Block) (d : Bit) (v : Byte) : (b.present d v).dc = levelOf d := rfl
@[simp] theorem Block.present_rst (b : Block) (d : Bit) (v : Byte) : (b.present d v).rst = b.rst := rfl
@[simp] theorem Block.present_bl (b : Block) (d : Bit) (v : Byte) : (b.present d v).bl = b.bl := rfl
@[simp] theorem Block.present_seq (b : Block) (d : Bit) (v : Byte) : (b.present d v).seq = b.seq := rfl
@[simp] theorem Block.present_status (b : Block) (d : Bit) (v : Byte) : (b.present d v).status = b.status := rfl
@[simp] theorem Block.present_faults (b : Block) (d : Bit) (v : Byte) : (b.present d v).faults = b.faults := rfl
@[simp] theorem Block.present_trace (b : Block) (d : Bit) (v : Byte) : (b.present d v).trace = b.trace := rfl
@[simp] theorem Block.present_frame (b : Block) (d : Bit) (v : Byte) : (b.present d v).frame = b.frame := rfl
@[simp] theorem Block.present_pixIn (b : Block) (d : Bit) (v : Byte) : (b.present d v).pixIn = b.pixIn := rfl
@[simp] theorem Block.present_pixOut (b : Block) (d : Bit) (v : Byte) : (b.present d v).pixOut = b.pixOut := rfl
@[simp] theorem Block.present_byteOut (b : Block) (d : Bit) (v : Byte) : (b.present d v).byteOut = wireWord d v := rfl

/-- Packing changes nothing but the two pixel latches: either it packs a pixel, or it does nothing. -/
theorem Block.pack_cases (b : Block) :
    (∃ p, b.seq.op = .writeFrame ∧ pixelStartingAt b.frame b.seq.k = some p ∧ b.pack = b.packPixel p) ∨ b.pack = b := by
  unfold Block.pack
  split
  · split
    · exact .inl ⟨_, ‹_›, ‹_›, rfl⟩
    · exact .inr rfl
  · exact .inr rfl

theorem Block.pack_of_ne {b : Block} (h : b.seq.op ≠ .writeFrame) : b.pack = b := by
  simp [Block.pack, h]

@[simp] theorem Block.pack_cfg (b : Block) : b.pack.cfg = b.cfg := by
  rcases b.pack_cases with ⟨p, -, -, h⟩ | h <;> simp [h]

@[simp] theorem Block.pack_phase (b : Block) : b.pack.phase = b.phase := by
  rcases b.pack_cases with ⟨p, -, -, h⟩ | h <;> simp [h]

@[simp] theorem Block.pack_dc (b : Block) : b.pack.dc = b.dc := by
  rcases b.pack_cases with ⟨p, -, -, h⟩ | h <;> simp [h]

@[simp] theorem Block.pack_rst (b : Block) : b.pack.rst = b.rst := by
  rcases b.pack_cases with ⟨p, -, -, h⟩ | h <;> simp [h]

@[simp] theorem Block.pack_bl (b : Block) : b.pack.bl = b.bl := by
  rcases b.pack_cases with ⟨p, -, -, h⟩ | h <;> simp [h]

@[simp] theorem Block.pack_seq (b : Block) : b.pack.seq = b.seq := by
  rcases b.pack_cases with ⟨p, -, -, h⟩ | h <;> simp [h]

@[simp] theorem Block.pack_status (b : Block) : b.pack.status = b.status := by
  rcases b.pack_cases with ⟨p, -, -, h⟩ | h <;> simp [h]

@[simp] theorem Block.pack_faults (b : Block) : b.pack.faults = b.faults := by
  rcases b.pack_cases with ⟨p, -, -, h⟩ | h <;> simp [h]

@[simp] theorem Block.pack_trace (b : Block) : b.pack.trace = b.trace := by
  rcases b.pack_cases with ⟨p, -, -, h⟩ | h <;> simp [h]

@[simp] theorem Block.pack_frame (b : Block) : b.pack.frame = b.frame := by
  rcases b.pack_cases with ⟨p, -, -, h⟩ | h <;> simp [h]

@[simp] theorem Block.pack_byteOut (b : Block) : b.pack.byteOut = b.byteOut := by
  rcases b.pack_cases with ⟨p, -, -, h⟩ | h <;> simp [h]

@[simp] theorem State.setBlock_block (s : State) (b : Block) : (s.setBlock b).block = some b := rfl
@[simp] theorem State.setBlock_acquisitionFailed (s : State) (b : Block) : (s.setBlock b).acquisitionFailed = s.acquisitionFailed := rfl
@[simp] theorem State.setBlock_params (s : State) (b : Block) : (s.setBlock b).params = s.params := rfl
@[simp] theorem State.setBlock_host (s : State) (b : Block) : (s.setBlock b).host = s.host := rfl
@[simp] theorem State.setBlock_answers (s : State) (b : Block) : (s.setBlock b).answers = s.answers := rfl
@[simp] theorem State.setBlock_drawn (s : State) (b : Block) : (s.setBlock b).drawn = s.drawn := rfl
@[simp] theorem State.setBlock_ret (s : State) (b : Block) : (s.setBlock b).ret = s.ret := rfl

@[simp] theorem State.dropBlock_block (s : State) : s.dropBlock.block = none := rfl
@[simp] theorem State.dropBlock_acquisitionFailed (s : State) : s.dropBlock.acquisitionFailed = s.acquisitionFailed := rfl
@[simp] theorem State.dropBlock_params (s : State) : s.dropBlock.params = s.params := rfl
@[simp] theorem State.dropBlock_host (s : State) : s.dropBlock.host = s.host := rfl
@[simp] theorem State.dropBlock_answers (s : State) : s.dropBlock.answers = s.answers := rfl
@[simp] theorem State.dropBlock_drawn (s : State) : s.dropBlock.drawn = s.drawn := rfl
@[simp] theorem State.dropBlock_ret (s : State) : s.dropBlock.ret = s.ret := rfl

@[simp] theorem State.setAcquisitionFailed_block (s : State) (f : Bool) : (s.setAcquisitionFailed f).block = s.block := rfl
@[simp] theorem State.setAcquisitionFailed_acquisitionFailed (s : State) (f : Bool) : (s.setAcquisitionFailed f).acquisitionFailed = f := rfl
@[simp] theorem State.setAcquisitionFailed_params (s : State) (f : Bool) : (s.setAcquisitionFailed f).params = s.params := rfl
@[simp] theorem State.setAcquisitionFailed_host (s : State) (f : Bool) : (s.setAcquisitionFailed f).host = s.host := rfl
@[simp] theorem State.setAcquisitionFailed_answers (s : State) (f : Bool) : (s.setAcquisitionFailed f).answers = s.answers := rfl
@[simp] theorem State.setAcquisitionFailed_drawn (s : State) (f : Bool) : (s.setAcquisitionFailed f).drawn = s.drawn := rfl
@[simp] theorem State.setAcquisitionFailed_ret (s : State) (f : Bool) : (s.setAcquisitionFailed f).ret = s.ret := rfl

@[simp] theorem State.setRet_block (s : State) (r : Returned) : (s.setRet r).block = s.block := rfl
@[simp] theorem State.setRet_acquisitionFailed (s : State) (r : Returned) : (s.setRet r).acquisitionFailed = s.acquisitionFailed := rfl
@[simp] theorem State.setRet_params (s : State) (r : Returned) : (s.setRet r).params = s.params := rfl
@[simp] theorem State.setRet_host (s : State) (r : Returned) : (s.setRet r).host = s.host := rfl
@[simp] theorem State.setRet_answers (s : State) (r : Returned) : (s.setRet r).answers = s.answers := rfl
@[simp] theorem State.setRet_drawn (s : State) (r : Returned) : (s.setRet r).drawn = s.drawn := rfl
@[simp] theorem State.setRet_ret (s : State) (r : Returned) : (s.setRet r).ret = some r := rfl

@[simp] theorem State.setHost_block (s : State) (rs : List HostRequest) : (s.setHost rs).block = s.block := rfl
@[simp] theorem State.setHost_acquisitionFailed (s : State) (rs : List HostRequest) : (s.setHost rs).acquisitionFailed = s.acquisitionFailed := rfl
@[simp] theorem State.setHost_params (s : State) (rs : List HostRequest) : (s.setHost rs).params = s.params := rfl
@[simp] theorem State.setHost_host (s : State) (rs : List HostRequest) : (s.setHost rs).host = rs := rfl
@[simp] theorem State.setHost_answers (s : State) (rs : List HostRequest) : (s.setHost rs).answers = s.answers := rfl
@[simp] theorem State.setHost_drawn (s : State) (rs : List HostRequest) : (s.setHost rs).drawn = s.drawn := rfl
@[simp] theorem State.setHost_ret (s : State) (rs : List HostRequest) : (s.setHost rs).ret = s.ret := rfl

@[simp] theorem State.countDraw_block (s : State) : s.countDraw.block = s.block := rfl
@[simp] theorem State.countDraw_acquisitionFailed (s : State) : s.countDraw.acquisitionFailed = s.acquisitionFailed := rfl
@[simp] theorem State.countDraw_params (s : State) : s.countDraw.params = s.params := rfl
@[simp] theorem State.countDraw_host (s : State) : s.countDraw.host = s.host := rfl
@[simp] theorem State.countDraw_answers (s : State) : s.countDraw.answers = s.answers := rfl
@[simp] theorem State.countDraw_drawn (s : State) : s.countDraw.drawn = s.drawn + 1 := rfl
@[simp] theorem State.countDraw_ret (s : State) : s.countDraw.ret = s.ret := rfl

@[simp] theorem State.dropAnswer_block (s : State) : s.dropAnswer.block = s.block := rfl
@[simp] theorem State.dropAnswer_acquisitionFailed (s : State) : s.dropAnswer.acquisitionFailed = s.acquisitionFailed := rfl
@[simp] theorem State.dropAnswer_params (s : State) : s.dropAnswer.params = s.params := rfl
@[simp] theorem State.dropAnswer_host (s : State) : s.dropAnswer.host = s.host := rfl
@[simp] theorem State.dropAnswer_answers (s : State) : s.dropAnswer.answers = s.answers.tail := rfl
@[simp] theorem State.dropAnswer_drawn (s : State) : s.dropAnswer.drawn = s.drawn := rfl
@[simp] theorem State.dropAnswer_ret (s : State) : s.dropAnswer.ret = s.ret := rfl

@[simp] theorem State.afterAnswer_block (s : State) : s.afterAnswer.block = s.block := rfl
@[simp] theorem State.afterAnswer_acquisitionFailed (s : State) : s.afterAnswer.acquisitionFailed = s.acquisitionFailed := rfl
@[simp] theorem State.afterAnswer_params (s : State) : s.afterAnswer.params = s.params := rfl
@[simp] theorem State.afterAnswer_host (s : State) : s.afterAnswer.host = s.host := rfl
@[simp] theorem State.afterAnswer_answers (s : State) : s.afterAnswer.answers = s.answers.tail := rfl
@[simp] theorem State.afterAnswer_drawn (s : State) : s.afterAnswer.drawn = s.drawn + 1 := rfl
@[simp] theorem State.afterAnswer_ret (s : State) : s.afterAnswer.ret = s.ret := rfl

end Sys2Proof.Machine
end

