-- ==== Sys2Proof/Laws/Ops.lean ====
section
/-! SUPPORT. What each shared operation can do, said once: the checks of a host operation and of a micro-operation,
the environment's answers, a sent byte, the return to the host, the acquisitions, the step. -/

namespace Sys2Proof.Machine

open Host (Outcome)

/-! ## The environment's answers -/

theorem State.nextAnswer_cons {s : State} {a : Answer} {rest : List Answer} (h : s.answers = a :: rest) :
    s.nextAnswer = a := by
  simp [State.nextAnswer, h]

theorem State.afterAnswer_eq {s : State} {a : Answer} {rest : List Answer} (h : s.answers = a :: rest) :
    s.afterAnswer = { s with answers := rest, drawn := s.drawn + 1 } := by
  simp [State.afterAnswer, State.dropAnswer, State.countDraw, h]

/-! ## The checks of a host operation (R184) -/

theorem issueOn_idle {s : State} {b : Block} {f : State → Block → Outcome State Fault Refusal}
    (hf : b.faults = 0#5) (hi : b.busy = false) : issueOn s b f = f s b := by
  simp [issueOn, hf, hi]

theorem issueOn_busy {s : State} {b : Block} {f : State → Block → Outcome State Fault Refusal}
    (hf : b.faults = 0#5) (hi : b.busy = true) : issueOn s b f = .next (takeContractFault .busyIssue s b) := by
  simp [issueOn, hf, hi]

theorem issueOn_faulted {s : State} {b : Block} {f : State → Block → Outcome State Fault Refusal}
    (hf : b.faults ≠ 0#5) : issueOn s b f = .fault (.contractFaulted b.faults) := by
  simp [issueOn, hf]

/-- If a host operation answers a next state, the block had no fault, and it was busy and took `BUSY_ISSUE`, or idle and
the operation itself answered. -/
theorem issueOn_next {s t : State} {b : Block} {f : State → Block → Outcome State Fault Refusal}
    (h : issueOn s b f = .next t) :
    b.faults = 0#5 ∧
      ((b.busy = true ∧ t = takeContractFault .busyIssue s b) ∨ (b.busy = false ∧ f s b = .next t)) := by
  unfold issueOn at h
  split at h
  · refine ⟨‹_›, ?_⟩
    split at h
    · cases h; exact .inl ⟨‹_›, rfl⟩
    · exact .inr ⟨by simp_all, h⟩
  · cases h

theorem hostOp_some {s : State} {b : Block} (hb : s.block = some b)
    (f : State → Block → Outcome State Fault Refusal) : hostOp s f = issueOn s b f := by
  simp [hostOp, hb]

/-- If a host operation of a block answers a next state, a block was there. -/
theorem hostOp_next {s t : State} {f : State → Block → Outcome State Fault Refusal} (h : hostOp s f = .next t) :
    ∃ b, s.block = some b ∧ issueOn s b f = .next t := by
  unfold hostOp at h
  split at h
  · cases h
  · exact ⟨_, ‹_›, h⟩

/-! ## The check of a micro-operation (R83) -/

theorem Block.microEnabled_iff {b : Block} :
    b.microEnabled = true ↔ b.seq.op ≠ .none ∧ b.seq.k < b.seq.prog.length := by
  simp [Block.microEnabled, Block.busy]

theorem microOp_enabled {s : State} {b : Block} (f : State → Block → State) (hb : s.block = some b)
    (hf : b.faults = 0#5) (he : b.microEnabled = true) : microOp s f = .next (f s b) := by
  simp [microOp, hb, hf, he]

/-- If a micro-operation answers a next state, R83 enabled it, and the state is its own effect. -/
theorem microOp_next {s t : State} {f : State → Block → State} (h : microOp s f = .next t) :
    ∃ b, s.block = some b ∧ b.faults = 0#5 ∧ b.microEnabled = true ∧ t = f s b := by
  unfold microOp at h
  split at h
  · cases h
  · split at h
    · split at h
      · cases h; exact ⟨_, ‹_›, ‹_›, ‹_›, rfl⟩
      · cases h
    · cases h

/-! ## A sent byte (R85, R86, R87) -/

theorem sendByte_ok {dc : Bit} {v : Byte} {s : State} {b : Block} (h : s.nextAnswer = .ok) :
    sendByte dc v s b = s.afterAnswer.setBlock ((b.present dc v).emit (.byte dc v)).advance := by
  simp [sendByte, h]

theorem sendByte_fail {dc : Bit} {v : Byte} {s : State} {b : Block} (h : s.nextAnswer = .fail) :
    sendByte dc v s b = abort s.afterAnswer ((b.present dc v).emit (.lost dc v)) := by
  simp [sendByte, h]

/-- A sent byte is one of the two. -/
theorem sendByte_cases (dc : Bit) (v : Byte) (s : State) (b : Block) :
    (s.nextAnswer = .ok ∧
        sendByte dc v s b = s.afterAnswer.setBlock ((b.present dc v).emit (.byte dc v)).advance) ∨
      (s.nextAnswer = .fail ∧ sendByte dc v s b = abort s.afterAnswer ((b.present dc v).emit (.lost dc v))) := by
  cases h : s.nextAnswer
  · exact .inl ⟨rfl, sendByte_ok h⟩
  · exact .inr ⟨rfl, sendByte_fail h⟩

/-! ## The return to the host (R94, R95) -/

@[simp] theorem returnToHost_block (s : State) (b : Block) (p : Phase) (t : Status) :
    (returnToHost s b p t).block =
      some (((((b.setPhase p).setStatus t).setSeq Seq.idle).setFrame []).freeLatches s.drawn) := rfl

@[simp] theorem returnToHost_acquisitionFailed (s : State) (b : Block) (p : Phase) (t : Status) :
    (returnToHost s b p t).acquisitionFailed = s.acquisitionFailed := rfl

@[simp] theorem returnToHost_params (s : State) (b : Block) (p : Phase) (t : Status) :
    (returnToHost s b p t).params = s.params := rfl

@[simp] theorem returnToHost_host (s : State) (b : Block) (p : Phase) (t : Status) :
    (returnToHost s b p t).host = s.host := rfl

@[simp] theorem returnToHost_answers (s : State) (b : Block) (p : Phase) (t : Status) :
    (returnToHost s b p t).answers = s.answers := rfl

@[simp] theorem returnToHost_ret (s : State) (b : Block) (p : Phase) (t : Status) :
    (returnToHost s b p t).ret = some (.status t.code t.failedAt) := rfl

/-! ## Taking a contract fault (R180) -/

@[simp] theorem takeContractFault_block (f : ContractFault) (s : State) (b : Block) :
    (takeContractFault f s b).block = some (b.addFaults f.mask) := rfl

@[simp] theorem takeContractFault_acquisitionFailed (f : ContractFault) (s : State) (b : Block) :
    (takeContractFault f s b).acquisitionFailed = s.acquisitionFailed := rfl

@[simp] theorem takeContractFault_params (f : ContractFault) (s : State) (b : Block) :
    (takeContractFault f s b).params = s.params := rfl

@[simp] theorem takeContractFault_host (f : ContractFault) (s : State) (b : Block) :
    (takeContractFault f s b).host = s.host := rfl

@[simp] theorem takeContractFault_answers (f : ContractFault) (s : State) (b : Block) :
    (takeContractFault f s b).answers = s.answers := rfl

@[simp] theorem takeContractFault_ret (f : ContractFault) (s : State) (b : Block) :
    (takeContractFault f s b).ret = s.ret := rfl

/-! ## The packer (R19, R75, R135, R155) -/

/-- The packer's 24-bit input as a number: red highest. -/
theorem pixInOf_toNat (r g b : Byte) : (pixInOf r g b).toNat = r.toNat * 65536 + g.toNat * 256 + b.toNat := by
  have hg := g.isLt
  have hb := b.isLt
  show (r ++ g ++ b).toNat = _
  rw [BitVec.toNat_append, BitVec.toNat_append, ← Nat.shiftLeft_add_eq_or_of_lt hb, ← Nat.shiftLeft_add_eq_or_of_lt hg]
  simp only [Nat.shiftLeft_eq]
  omega

/-- The packer's 24-bit input packs as its three channels do. -/
theorem packPixIn_pixInOf (r g b : Byte) : packPixIn (pixInOf r g b) = pack565 r g b := by
  have hr := r.isLt
  have hg := g.isLt
  have hb := b.isLt
  have h1 : (pixInOf r g b).extractLsb' 16 8 = r := by
    apply BitVec.eq_of_toNat_eq
    simp only [BitVec.extractLsb'_toNat, pixInOf_toNat, Nat.shiftRight_eq_div_pow]; omega
  have h2 : (pixInOf r g b).extractLsb' 8 8 = g := by
    apply BitVec.eq_of_toNat_eq
    simp only [BitVec.extractLsb'_toNat, pixInOf_toNat, Nat.shiftRight_eq_div_pow]; omega
  have h3 : (pixInOf r g b).extractLsb' 0 8 = b := by
    apply BitVec.eq_of_toNat_eq
    simp only [BitVec.extractLsb'_toNat, pixInOf_toNat, Nat.shiftRight_eq_div_pow]; omega
  simp only [packPixIn, h1, h2, h3]

/-- The micro-operation at `11 + 2*i` is the high byte of pixel `i`. -/
theorem pixelStartingAt_high {fb : List Byte} {i : Nat} {r g b : Byte} (hr : fb[3 * i]? = some r)
    (hg : fb[3 * i + 1]? = some g) (hb : fb[3 * i + 2]? = some b) :
    pixelStartingAt fb (11 + 2 * i) = some (pixInOf r g b) := by
  simp [pixelStartingAt, windowOps, fbRead, hr, hg, hb]

/-- The micro-operation at `12 + 2*i` starts no pixel. -/
theorem pixelStartingAt_low (fb : List Byte) (i : Nat) : pixelStartingAt fb (12 + 2 * i) = none := by
  have h : ¬ ((12 + 2 * i - 11) % 2 = 0) := by omega
  simp [pixelStartingAt, windowOps, h]

/-- No micro-operation of the windows and `RAMWR` starts a pixel. -/
theorem pixelStartingAt_window {fb : List Byte} {k : Nat} (h : k < 11) : pixelStartingAt fb k = none := by
  have : ¬ (11 ≤ k) := by omega
  simp [pixelStartingAt, windowOps, this]

/-! ## The acquisitions (R99, R100) -/

/-- Acquisitions change only what has been answered and drawn. -/
theorem acquire_frame (n : Nat) (s : State) :
    (acquire n s).2.block = s.block ∧ (acquire n s).2.params = s.params ∧ (acquire n s).2.host = s.host ∧
      (acquire n s).2.ret = s.ret := by
  induction n generalizing s with
  | zero => simp [acquire]
  | succ n ih =>
    simp only [acquire]
    split
    · simpa using ih s.afterAnswer
    · simp

theorem acquire_all_ok {n : Nat} {s : State} {rest : List Answer}
    (h : s.answers = List.replicate n .ok ++ rest) : (acquire n s).1 = true ∧ (acquire n s).2.answers = rest := by
  induction n generalizing s with
  | zero => simp_all [acquire]
  | succ n ih =>
    have h' : s.answers = .ok :: (List.replicate n .ok ++ rest) := by simpa [List.replicate_succ] using h
    simp only [acquire, State.nextAnswer_cons h']
    exact ih (by simp [h'])

/-- What a construction leaves: a block of R40, or none and no operation defined (R100). -/
theorem construct_cases (v : Variant) (w h : Nat) (lines : Lines) (bus : Bus) (s : State) :
    ((acquire 4 s).1 = true ∧ ∃ i o y, (construct v w h lines bus s).block =
        some (Block.fresh ⟨v, w, h, tableOf (s.params.initTable.get v), lines, bus⟩ i o y) ∧
        (construct v w h lines bus s).acquisitionFailed = false) ∨
      ((acquire 4 s).1 = false ∧ (construct v w h lines bus s).block = none ∧
        (construct v w h lines bus s).acquisitionFailed = true) := by
  unfold construct
  rcases hq : acquire 4 s with ⟨a, t⟩
  cases a
  · exact .inr ⟨rfl, rfl, rfl⟩
  · exact .inl ⟨rfl, _, _, _, rfl, rfl⟩

theorem construct_params (v : Variant) (w h : Nat) (lines : Lines) (bus : Bus) (s : State) :
    (construct v w h lines bus s).params = s.params := by
  have hf := acquire_frame 4 s
  unfold construct
  rcases hq : acquire 4 s with ⟨a, t⟩
  rw [hq] at hf
  cases a <;> exact hf.2.1

/-! ## The step -/

/-- If a step answers a next state, it ran the instruction it fetched, or went on without one. -/
theorem step_next {s t : State} (h : step s = .next t) :
    (∃ i u, fetch s = .run i u ∧ exec i u = .next t) ∨ fetch s = .moved t := by
  unfold step at h
  split at h
  · exact .inl ⟨_, _, ‹_›, h⟩
  · cases h; exact .inr ‹_›
  · cases h
  · cases h

/-- What the host's side of a step fetches. -/
theorem fetchHost_run {s u : State} {i : Instr} (h : fetchHost s = .run i u) :
    ∃ r rest, s.host = r :: rest ∧ decodeCall s r.call = .ok i ∧ u = s.setHost rest := by
  unfold fetchHost at h
  split at h
  · cases h
  · split at h
    · cases h; exact ⟨_, _, ‹_›, ‹_›, rfl⟩
    · cases h

/-- At the host's turn the step looks at the host's requests. -/
theorem fetch_of_idle {s : State} {b : Block} (hb : s.block = some b) (hf : b.faults = 0#5)
    (ho : b.busy = false ∨ s.overlapDue = true) : fetch s = fetchHost s := by
  unfold fetch
  rcases ho with ho | ho <;> simp [hb, hf, ho]

theorem fetch_of_none {s : State} (hb : s.block = none) : fetch s = fetchHost s := by
  simp [fetch, hb]

/-- What the sequencer's side of a step fetches: an instruction, in the state whose packer has done its work. -/
theorem fetchSeq_run {s u : State} {b : Block} {i : Instr} (h : fetchSeq s b = .run i u) :
    ∃ w, b.seq.prog[b.seq.k]? = some w ∧ decodeMicro s.params.ops w = .ok i ∧
      u = s.setBlock b.pack := by
  unfold fetchSeq at h
  split at h
  · split at h
    · cases h; exact ⟨_, ‹_›, ‹_›, rfl⟩
    · cases h
  · split at h <;> cases h

/-- Where the sequencer's side of a step goes on without an instruction: an illegal word, or completion. -/
theorem fetchSeq_moved {s u : State} {b : Block} (h : fetchSeq s b = .moved u) :
    (∃ w e, b.seq.prog[b.seq.k]? = some w ∧ decodeMicro s.params.ops w = .error e ∧
        u = takeContractFault .illegalMicroop s b) ∨
      (b.seq.k = b.seq.prog.length ∧ u = complete s b) := by
  unfold fetchSeq at h
  split at h
  · split at h
    · cases h
    · cases h; exact .inl ⟨_, _, ‹_›, ‹_›, rfl⟩
  · split at h
    · cases h; exact .inr ⟨‹_›, rfl⟩
    · cases h

@[simp] theorem State.tickHost_block (s : State) : s.tickHost.block = s.block := rfl
@[simp] theorem State.tickHost_acquisitionFailed (s : State) : s.tickHost.acquisitionFailed = s.acquisitionFailed := rfl
@[simp] theorem State.tickHost_params (s : State) : s.tickHost.params = s.params := rfl
@[simp] theorem State.tickHost_answers (s : State) : s.tickHost.answers = s.answers := rfl
@[simp] theorem State.tickHost_drawn (s : State) : s.tickHost.drawn = s.drawn := rfl
@[simp] theorem State.tickHost_ret (s : State) : s.tickHost.ret = s.ret := rfl

end Sys2Proof.Machine
end

