-- ==== Sys2Proof/Laws/Panel.lean ====
section
/-! SUPPORT. What the shared operations of the panel receiver leave of each of its fields, so that no proof unfolds a
record update. -/

namespace Sys2Proof.Machine

/-! ## Forgetting every field -/

@[simp] theorem Panel.forgetAll_sleep (q : Panel) : q.forgetAll.sleep = none := rfl
@[simp] theorem Panel.forgetAll_disp (q : Panel) : q.forgetAll.disp = none := rfl
@[simp] theorem Panel.forgetAll_colmod (q : Panel) : q.forgetAll.colmod = none := rfl
@[simp] theorem Panel.forgetAll_madctl (q : Panel) : q.forgetAll.madctl = none := rfl
@[simp] theorem Panel.forgetAll_inv (q : Panel) : q.forgetAll.inv = none := rfl
@[simp] theorem Panel.forgetAll_regs (q : Panel) : q.forgetAll.regs = [] := rfl
@[simp] theorem Panel.forgetAll_xs (q : Panel) : q.forgetAll.xs = none := rfl
@[simp] theorem Panel.forgetAll_xe (q : Panel) : q.forgetAll.xe = none := rfl
@[simp] theorem Panel.forgetAll_ys (q : Panel) : q.forgetAll.ys = none := rfl
@[simp] theorem Panel.forgetAll_ye (q : Panel) : q.forgetAll.ye = none := rfl
@[simp] theorem Panel.forgetAll_px (q : Panel) : q.forgetAll.px = none := rfl
@[simp] theorem Panel.forgetAll_py (q : Panel) : q.forgetAll.py = none := rfl
@[simp] theorem Panel.forgetAll_mode (q : Panel) : q.forgetAll.mode = none := rfl
@[simp] theorem Panel.forgetAll_gram (q : Panel) : q.forgetAll.gram = [] := rfl
@[simp] theorem Panel.forgetAll_overrun (q : Panel) : q.forgetAll.overrun = false := rfl
@[simp] theorem Panel.forgetAll_rstLevel (q : Panel) : q.forgetAll.rstLevel = q.rstLevel := rfl
@[simp] theorem Panel.forgetAll_blLevel (q : Panel) : q.forgetAll.blLevel = q.blLevel := rfl
@[simp] theorem Panel.forgetAll_lowFor (q : Panel) : q.forgetAll.lowFor = q.lowFor := rfl
@[simp] theorem Panel.forgetAll_highFor (q : Panel) : q.forgetAll.highFor = q.highFor := rfl
@[simp] theorem Panel.forgetAll_resetDue (q : Panel) : q.forgetAll.resetDue = q.resetDue := rfl
@[simp] theorem Panel.forgetAll_wakeFor (q : Panel) : q.forgetAll.wakeFor = q.wakeFor := rfl

/-! ## Starting the wait after `SLPOUT`: it changes only that wait (R170) -/

@[simp] theorem Panel.startWake_sleep (p : Params) (q : Panel) (d : Bit) (b : Byte) :
    (q.startWake p d b).sleep = q.sleep := by
  unfold Panel.startWake; split <;> rfl

@[simp] theorem Panel.startWake_disp (p : Params) (q : Panel) (d : Bit) (b : Byte) :
    (q.startWake p d b).disp = q.disp := by
  unfold Panel.startWake; split <;> rfl

@[simp] theorem Panel.startWake_colmod (p : Params) (q : Panel) (d : Bit) (b : Byte) :
    (q.startWake p d b).colmod = q.colmod := by
  unfold Panel.startWake; split <;> rfl

@[simp] theorem Panel.startWake_madctl (p : Params) (q : Panel) (d : Bit) (b : Byte) :
    (q.startWake p d b).madctl = q.madctl := by
  unfold Panel.startWake; split <;> rfl

@[simp] theorem Panel.startWake_inv (p : Params) (q : Panel) (d : Bit) (b : Byte) :
    (q.startWake p d b).inv = q.inv := by
  unfold Panel.startWake; split <;> rfl

@[simp] theorem Panel.startWake_regs (p : Params) (q : Panel) (d : Bit) (b : Byte) :
    (q.startWake p d b).regs = q.regs := by
  unfold Panel.startWake; split <;> rfl

@[simp] theorem Panel.startWake_xs (p : Params) (q : Panel) (d : Bit) (b : Byte) :
    (q.startWake p d b).xs = q.xs := by
  unfold Panel.startWake; split <;> rfl

@[simp] theorem Panel.startWake_xe (p : Params) (q : Panel) (d : Bit) (b : Byte) :
    (q.startWake p d b).xe = q.xe := by
  unfold Panel.startWake; split <;> rfl

@[simp] theorem Panel.startWake_ys (p : Params) (q : Panel) (d : Bit) (b : Byte) :
    (q.startWake p d b).ys = q.ys := by
  unfold Panel.startWake; split <;> rfl

@[simp] theorem Panel.startWake_ye (p : Params) (q : Panel) (d : Bit) (b : Byte) :
    (q.startWake p d b).ye = q.ye := by
  unfold Panel.startWake; split <;> rfl

@[simp] theorem Panel.startWake_px (p : Params) (q : Panel) (d : Bit) (b : Byte) :
    (q.startWake p d b).px = q.px := by
  unfold Panel.startWake; split <;> rfl

@[simp] theorem Panel.startWake_py (p : Params) (q : Panel) (d : Bit) (b : Byte) :
    (q.startWake p d b).py = q.py := by
  unfold Panel.startWake; split <;> rfl

@[simp] theorem Panel.startWake_mode (p : Params) (q : Panel) (d : Bit) (b : Byte) :
    (q.startWake p d b).mode = q.mode := by
  unfold Panel.startWake; split <;> rfl

@[simp] theorem Panel.startWake_gram (p : Params) (q : Panel) (d : Bit) (b : Byte) :
    (q.startWake p d b).gram = q.gram := by
  unfold Panel.startWake; split <;> rfl

@[simp] theorem Panel.startWake_overrun (p : Params) (q : Panel) (d : Bit) (b : Byte) :
    (q.startWake p d b).overrun = q.overrun := by
  unfold Panel.startWake; split <;> rfl

@[simp] theorem Panel.startWake_rstLevel (p : Params) (q : Panel) (d : Bit) (b : Byte) :
    (q.startWake p d b).rstLevel = q.rstLevel := by
  unfold Panel.startWake; split <;> rfl

@[simp] theorem Panel.startWake_blLevel (p : Params) (q : Panel) (d : Bit) (b : Byte) :
    (q.startWake p d b).blLevel = q.blLevel := by
  unfold Panel.startWake; split <;> rfl

@[simp] theorem Panel.startWake_lowFor (p : Params) (q : Panel) (d : Bit) (b : Byte) :
    (q.startWake p d b).lowFor = q.lowFor := by
  unfold Panel.startWake; split <;> rfl

@[simp] theorem Panel.startWake_highFor (p : Params) (q : Panel) (d : Bit) (b : Byte) :
    (q.startWake p d b).highFor = q.highFor := by
  unfold Panel.startWake; split <;> rfl

@[simp] theorem Panel.startWake_resetDue (p : Params) (q : Panel) (d : Bit) (b : Byte) :
    (q.startWake p d b).resetDue = q.resetDue := by
  unfold Panel.startWake; split <;> rfl

/-- A data byte, and a command byte other than `SLPOUT`, starts no wait. -/
theorem Panel.startWake_of_ne {p : Params} {q : Panel} {d : Bit} {b : Byte} (h : d = 0#1 → b ≠ p.ops.slpout) :
    q.startWake p d b = q := by
  unfold Panel.startWake
  split
  · exact absurd (‹_ ∧ _›).2 (h (‹_ ∧ _›).1)
  · rfl

/-! ## A byte -/

/-- A byte that comes too early makes every field unknown (R167, R170). -/
theorem Panel.byte_early {p : Params} {v : Variant} {q : Panel} {d : Bit} {b : Byte} (h : q.tooEarly = true) :
    q.byte p v d b = ({ q with resetDue := false }.forgetAll).startWake p d b := by
  simp [Panel.byte, h]

/-- A command byte that does not come too early acts as its command (R168). -/
theorem Panel.byte_command {p : Params} {v : Variant} {q : Panel} {b : Byte} (h : q.tooEarly = false) :
    q.byte p v 0#1 b = ({ q with resetDue := false }.command p v b).startWake p 0#1 b := by
  simp [Panel.byte, h]

/-- A data byte that does not come too early is a parameter or pixel byte (R169, R171). -/
theorem Panel.byte_data {p : Params} {v : Variant} {q : Panel} {d : Byte} (h : q.tooEarly = false) :
    q.byte p v 1#1 d = { q with resetDue := false }.data p v d := by
  rw [Panel.byte, h]
  exact Panel.startWake_of_ne fun h => absurd h (by decide)

/-! ## A lost byte (R85, R174) -/

/-- A lost byte that comes too early makes every field unknown, whichever operation lost it. -/
theorem Panel.lost_early {p : Params} {q : Panel} {op : SeqOp} {d : Bit} {b : Byte} (h : q.tooEarly = true) :
    q.lost p op d b = ({ q with resetDue := false }.forgetAll).startWake p d b := by
  simp [Panel.lost, h]

/-- A lost byte that does not come too early makes unknown what R174 says. -/
theorem Panel.lost_of_not_early {p : Params} {q : Panel} {op : SeqOp} {d : Bit} {b : Byte} (h : q.tooEarly = false) :
    q.lost p op d b = ({ q with resetDue := false }.forgetLost op).startWake p d b := by
  simp [Panel.lost, h]

/-! ## The reset line and the waits (R167, R170, R204) -/

@[simp] theorem Panel.resetLow_rstLevel (q : Panel) : q.resetLow.rstLevel = .low := rfl
@[simp] theorem Panel.resetLow_lowFor (q : Panel) : q.resetLow.lowFor = some (q.lowFor.getD 0) := rfl
@[simp] theorem Panel.resetLow_highFor (q : Panel) : q.resetLow.highFor = none := rfl
@[simp] theorem Panel.resetLow_resetDue (q : Panel) : q.resetLow.resetDue = false := rfl

@[simp] theorem Panel.resetLow_wakeFor (q : Panel) : q.resetLow.wakeFor = q.wakeFor := by
  unfold Panel.resetLow; split <;> rfl

@[simp] theorem Panel.resetLow_blLevel (q : Panel) : q.resetLow.blLevel = q.blLevel := by
  unfold Panel.resetLow; split <;> rfl

/-- A wait while no second wait of a pulse runs only lets the other two times grow. -/
theorem Panel.wait_of_none {q : Panel} (h : q.highFor = none) (ms : Nat) :
    q.wait ms = { q with lowFor := q.lowFor.map (· + ms), wakeFor := q.wakeFor.map (· + ms) } := by
  simp [Panel.wait, h]

/-- A wait that leaves the second wait of a pulse running. -/
theorem Panel.wait_short {q : Panel} {n ms : Nat} (h : q.highFor = some n) (hm : n + ms < 100) :
    q.wait ms = { q with
      lowFor := q.lowFor.map (· + ms), wakeFor := q.wakeFor.map (· + ms), highFor := some (n + ms) } := by
  have hm' : n + ms < tRstHigh.toNat := hm
  simp [Panel.wait, h, hm']

/-- A wait that ends the second wait of a pulse. -/
theorem Panel.wait_long {q : Panel} {n ms : Nat} (h : q.highFor = some n) (hm : 100 ≤ n + ms) :
    q.wait ms =
      { q with lowFor := q.lowFor.map (· + ms), wakeFor := q.wakeFor.map (· + ms) }.endHigh := by
  have hm' : ¬ n + ms < tRstHigh.toNat := Nat.not_lt.mpr hm
  simp [Panel.wait, h, hm']

/-- The reset line goes to 1 after a low time that was long enough. -/
theorem Panel.resetHigh_long {q : Panel} {n : Nat} (h : q.lowFor = some n) (hn : 100 ≤ n) :
    q.resetHigh = { q with rstLevel := .high, lowFor := none, highFor := some 0, resetDue := true } := by
  have hn' : ¬ n < tRstLow.toNat := Nat.not_lt.mpr hn
  simp [Panel.resetHigh, h, hn']

/-- The reset line goes to 1 after a low time that was too short: every field is unknown. -/
theorem Panel.resetHigh_short {q : Panel} {n : Nat} (h : q.lowFor = some n) (hn : n < 100) :
    q.resetHigh = { q.forgetAll with rstLevel := .high, lowFor := none, highFor := some 0, resetDue := false } := by
  have hn' : n < tRstLow.toNat := hn
  simp [Panel.resetHigh, h, hn']

/-- A byte comes too early while the reset line is 0. -/
theorem Panel.tooEarly_of_low {q : Panel} (h : q.rstLevel = .low) : q.tooEarly = true := by
  simp [Panel.tooEarly, h]

/-- A byte comes too early less than 100 ms after the reset line went to 1. -/
theorem Panel.tooEarly_of_high {q : Panel} {n : Nat} (h : q.highFor = some n) (hn : n < 100) : q.tooEarly = true := by
  have hn' : n < tRstHigh.toNat := hn
  simp [Panel.tooEarly, shortOf, h, hn']

/-! ## The write pointer (R171) -/

/-- Inside a row an advance adds 1 to the column and leaves the row. -/
theorem Panel.advance_column {q : Panel} {x e : Word16} (hx : q.px = some x) (he : q.xe = some e)
    (h : x.toNat < e.toNat) : q.pxAfter = some (x + 1#16) ∧ q.rowAfter = q.py.map (·.toNat) := by
  have hr : q.rowEnds = some false := by simp [Panel.rowEnds, hx, he]; omega
  simp [Panel.pxAfter, Panel.rowAfter, hr, hx]

/-- At the end of a row an advance goes back to the first column and adds 1 to the row. -/
theorem Panel.advance_row {q : Panel} {x e : Word16} (hx : q.px = some x) (he : q.xe = some e)
    (h : e.toNat ≤ x.toNat) : q.pxAfter = q.xs ∧ q.rowAfter = q.py.map (·.toNat + 1) := by
  have hr : q.rowEnds = some true := by simp [Panel.rowEnds, hx, he]; omega
  simp [Panel.pxAfter, Panel.rowAfter, hr]

end Sys2Proof.Machine
end

