-- ==== Sys2Proof/Laws/PerInstr.lean ====
section
/-! SUPPORT. A statement about every instruction, one lemma per constructor: its encoding is a word of its own row of
spec/opcode_table.json, whose format, match and mask are written out here from the table. -/

namespace Sys2Proof.Laws

/-- A row of the opcode table: a `HOST` selector or a `MICRO12` word, with its match and mask. -/
inductive TableRow.Row where
  | host (pattern mask : BitVec 4)
  | micro (pattern mask : BitVec 12)
deriving DecidableEq, Repr

/-- The row of an instruction, from spec/opcode_table.json. -/
def TableRow.row : Instr → TableRow.Row
  | .construct _ _ _ _ _ => .host 0x1#4 0xf#4
  | .initializeOp => .host 0x2#4 0xf#4
  | .writeFrame _ => .host 0x3#4 0xf#4
  | .pack565 _ _ _ => .host 0x4#4 0xf#4
  | .writeCmd _ => .micro 0x0#12 0xf00#12
  | .writeData _ => .micro 0x100#12 0xf00#12
  | .setRst _ => .micro 0x200#12 0xffe#12
  | .setBl _ => .micro 0x400#12 0xffe#12
  | .delay _ => .micro 0x600#12 0xe00#12
  | .cmdSlpout => .micro 0x11#12 0xfff#12
  | .cmdDispon => .micro 0x29#12 0xfff#12
  | .cmdCaset => .micro 0x2a#12 0xfff#12
  | .cmdRaset => .micro 0x2b#12 0xfff#12
  | .cmdRamwr => .micro 0x2c#12 0xfff#12
  | .cmdMadctl => .micro 0x36#12 0xfff#12
  | .cmdColmod => .micro 0x3a#12 0xfff#12
  | .cmdPorctrl => .micro 0xb2#12 0xfff#12
  | .cmdGctrl => .micro 0xb7#12 0xfff#12
  | .cmdVcoms => .micro 0xbb#12 0xfff#12
  | .cmdLcmctrl => .micro 0xc0#12 0xfff#12
  | .cmdPvgamctrl => .micro 0xe0#12 0xfff#12
  | .cmdNvgamctrl => .micro 0xe1#12 0xfff#12
  | .cmdInvon => .micro 0x21#12 0xfff#12
  | .cmdInvoff => .micro 0x20#12 0xfff#12

/-- A raw instruction is a word of a row. -/
def TableRow.matches : RawInstr → TableRow.Row → Bool
  | .host opid _, .host pattern mask => opid &&& mask == pattern
  | .micro u, .micro pattern mask => u &&& mask == pattern
  | .host _ _, .micro _ _ => false
  | .micro _, .host _ _ => false

/-- The instruction's encoding under the default command bytes is a word of its row. -/
def TableRow.Statement (i : Instr) : Prop := TableRow.matches (encode OpBytes.default i) (TableRow.row i) = true

theorem TableRow.construct (v : Variant) (w h : Nat) (l : Lines) (b : Bus) : TableRow.Statement (.construct v w h l b) := rfl

theorem TableRow.initializeOp : TableRow.Statement .initializeOp := rfl

theorem TableRow.writeFrame (fb : List Byte) : TableRow.Statement (.writeFrame fb) := rfl

theorem TableRow.pack565 (r g b : Byte) : TableRow.Statement (.pack565 r g b) := rfl

theorem TableRow.writeCmd (b : Byte) : TableRow.Statement (.writeCmd b) := by
  revert b; unfold TableRow.Statement; decide

theorem TableRow.writeData (b : Byte) : TableRow.Statement (.writeData b) := by
  revert b; unfold TableRow.Statement; decide

theorem TableRow.setRst (l : Bit) : TableRow.Statement (.setRst l) := by
  revert l; unfold TableRow.Statement; decide

theorem TableRow.setBl (l : Bit) : TableRow.Statement (.setBl l) := by
  revert l; unfold TableRow.Statement; decide

theorem TableRow.delay (ms : BitVec 9) : TableRow.Statement (.delay ms) := by
  revert ms; unfold TableRow.Statement; decide

theorem TableRow.cmdSlpout : TableRow.Statement .cmdSlpout := rfl

theorem TableRow.cmdDispon : TableRow.Statement .cmdDispon := rfl

theorem TableRow.cmdCaset : TableRow.Statement .cmdCaset := rfl

theorem TableRow.cmdRaset : TableRow.Statement .cmdRaset := rfl

theorem TableRow.cmdRamwr : TableRow.Statement .cmdRamwr := rfl

theorem TableRow.cmdMadctl : TableRow.Statement .cmdMadctl := rfl

theorem TableRow.cmdColmod : TableRow.Statement .cmdColmod := rfl

theorem TableRow.cmdPorctrl : TableRow.Statement .cmdPorctrl := rfl

theorem TableRow.cmdGctrl : TableRow.Statement .cmdGctrl := rfl

theorem TableRow.cmdVcoms : TableRow.Statement .cmdVcoms := rfl

theorem TableRow.cmdLcmctrl : TableRow.Statement .cmdLcmctrl := rfl

theorem TableRow.cmdPvgamctrl : TableRow.Statement .cmdPvgamctrl := rfl

theorem TableRow.cmdNvgamctrl : TableRow.Statement .cmdNvgamctrl := rfl

theorem TableRow.cmdInvon : TableRow.Statement .cmdInvon := rfl

theorem TableRow.cmdInvoff : TableRow.Statement .cmdInvoff := rfl

end Sys2Proof.Laws
end

