-- ==== Sys2Proof/Machine/Asm.lean ====
section
/-! DEFINITION. The spec's textual form (R80): micro-operations one to a line, and trace events, which print as the
micro-operation that emits them. -/

namespace Sys2Proof.Machine

/-- One hexadecimal digit. -/
def hexDigit (n : Nat) : Char := (['0', '1', '2', '3', '4', '5', '6', '7', '8', '9', 'A', 'B', 'C', 'D', 'E', 'F'])[n]?.getD '0'

/-- A byte as `0x` and two hexadecimal digits. -/
def byteText (b : Byte) : String := "0x" ++ String.ofList [hexDigit (b.toNat / 16), hexDigit (b.toNat % 16)]

/-- A wire event's line (R80). -/
def eventText : WireEvent → String
  | .byte dc b => (if dc = 0#1 then "CMD " else "DAT ") ++ byteText b
  | .lost dc b => (if dc = 0#1 then "CMD " else "DAT ") ++ byteText b
  | .rst l => "RST " ++ toString l.toNat
  | .bl l => "BL " ++ toString l.toNat
  | .delay ms => "DELAY " ++ toString ms.toNat

/-- The event a micro-operation emits when it succeeds; none for an illegal word and for a host operation. -/
def eventOf (o : OpBytes) (u : MicroWord) : Option WireEvent :=
  match decodeMicro o u with
  | .error _ => none
  | .ok (.writeData d) => some (.byte 1#1 d)
  | .ok (.setRst l) => some (.rst l)
  | .ok (.setBl l) => some (.bl l)
  | .ok (.delay ms) => some (.delay ms)
  | .ok _ => some (.byte 0#1 (microByte u))

/-- A micro-operation's line (R80), none for an illegal word. -/
def microText (o : OpBytes) (u : MicroWord) : Option String := (eventOf o u).map eventText

end Sys2Proof.Machine
end

