-- ==== Sys2Proof/Tests/Slice0.lean ====
section
/-! SUPPORT. The model's own tests. Expected values are taken from the spec's encodings, tables and test vectors
(95_test_vectors.md); each test names its source. Then, for each statement with hypotheses, a witness that meets them. -/

namespace Sys2Proof.Tests

open Sys2Proof Sys2Proof.Machine

/-! ## Small states -/

/-- The default command bytes. -/
abbrev ops : OpBytes := OpBytes.default

/-- A 2 by 2 panel, as in program P2. -/
def cfg2 : Cfg := { resetCfg with w := 2, h := 2 }

/-- The frame of program P2: red, green, blue, white. -/
def fb2 : List Byte := [0xFF#8, 0x00#8, 0x00#8, 0x00#8, 0xFF#8, 0x00#8, 0x00#8, 0x00#8, 0xFF#8, 0xFF#8, 0xFF#8, 0xFF#8]

/-- An idle block of the 2 by 2 panel in a phase. -/
def idleBlock (p : Phase) : Block := { Block.fresh cfg2 0#24 0#16 0#9 with phase := p }

/-- A state with an idle block. -/
def idleState (p : Phase) : State := { State.reset with block := some (idleBlock p) }

/-- A block in the middle of a list. -/
def busyBlock (op : SeqOp) (prog : List MicroWord) (k : Nat) : Block :=
  { Block.fresh cfg2 0#24 0#16 0#9 with seq := ⟨op, prog, k⟩ }

/-- A state with such a block and the answers the transport will give. -/
def busyState (op : SeqOp) (prog : List MicroWord) (k : Nat) (as : List Answer) : State :=
  { State.reset with block := some (busyBlock op prog k), answers := as }

/-- The state with no block. -/
def noState (as : List Answer) : State := { State.reset with block := none, answers := as }

/-- The block of a next state. -/
def blockOf : Host.Outcome State Fault Refusal → Option Block
  | .next s => s.block
  | .fault _ => none
  | .refused _ => none

/-- The returned value of a next state. -/
def retOf : Host.Outcome State Fault Refusal → Option Returned
  | .next s => s.ret
  | .fault _ => none
  | .refused _ => none

/-- Whether an outcome is a next state. -/
def isNext : Host.Outcome State Fault Refusal → Bool
  | .next _ => true
  | .fault _ => false
  | .refused _ => false

/-- The refusal of an outcome. -/
def refusalOf : Host.Outcome State Fault Refusal → Option Refusal
  | .refused r => some r
  | .next _ => none
  | .fault _ => none

/-- The fault of an outcome. -/
def faultOf : Host.Outcome State Fault Refusal → Option Fault
  | .fault f => some f
  | .next _ => none
  | .refused _ => none

/-! ## Well-formedness: each check refuses an ill-formed term -/

theorem test_wf_refuses_named_byte : (Instr.writeCmd 0x2A#8).wf ops = false := by decide
theorem test_wf_accepts_unnamed_byte : (Instr.writeCmd 0xCB#8).wf ops = true := by decide
theorem test_distinct_refuses_shared_byte : ({ ops with dispon := 0x11#8 } : OpBytes).distinct = false := by decide
theorem test_distinct_accepts_defaults : ops.distinct = true := by decide

/-! ## Decoding: words written out bit by bit (R67, R71, R77; section 2.2) -/

theorem test_decode_micro_words :
    decodeMicro ops 0b000011111111#12 = .ok (.writeCmd 0xFF#8) ∧
    decodeMicro ops 0b000111101111#12 = .ok (.writeData 0xEF#8) ∧
    decodeMicro ops 0b001000000001#12 = .ok (.setRst 1#1) ∧
    decodeMicro ops 0b010000000001#12 = .ok (.setBl 1#1) ∧
    decodeMicro ops 0b011111111111#12 = .ok (.delay 511#9) := by decide

theorem test_decode_owned_commands :
    decodeMicro ops 0b000000010001#12 = .ok .cmdSlpout ∧ decodeMicro ops 0b000000101001#12 = .ok .cmdDispon ∧
    decodeMicro ops 0b000000101010#12 = .ok .cmdCaset ∧ decodeMicro ops 0b000000101011#12 = .ok .cmdRaset ∧
    decodeMicro ops 0b000000101100#12 = .ok .cmdRamwr := by decide

theorem test_decode_table_commands :
    decodeMicro ops 0b000000110110#12 = .ok .cmdMadctl ∧ decodeMicro ops 0b000000111010#12 = .ok .cmdColmod ∧
    decodeMicro ops 0b000010110010#12 = .ok .cmdPorctrl ∧ decodeMicro ops 0b000010110111#12 = .ok .cmdGctrl ∧
    decodeMicro ops 0b000010111011#12 = .ok .cmdVcoms ∧ decodeMicro ops 0b000011000000#12 = .ok .cmdLcmctrl ∧
    decodeMicro ops 0b000011100000#12 = .ok .cmdPvgamctrl ∧ decodeMicro ops 0b000011100001#12 = .ok .cmdNvgamctrl ∧
    decodeMicro ops 0b000000100001#12 = .ok .cmdInvon ∧ decodeMicro ops 0b000000100000#12 = .ok .cmdInvoff := by
  decide

theorem test_decode_host_operations :
    decodeHost 0b0001#4 [.variant .ili9341, .nat 240, .nat 320, .lines ⟨1, 2, 3⟩, .bus ⟨4⟩] =
      .ok (.construct .ili9341 240 320 ⟨1, 2, 3⟩ ⟨4⟩) ∧
    decodeHost 0b0010#4 [] = .ok .initializeOp ∧
    decodeHost 0b0011#4 [.bytes [1, 255]] = .ok (.writeFrame [0x01#8, 0xFF#8]) ∧
    decodeHost 0b0100#4 [.nat 18, .nat 52, .nat 86] = .ok (.pack565 0x12#8 0x34#8 0x56#8) := by decide

theorem test_decode_illegal_words :
    decodeMicro ops 0x202#12 = .error (.illegalMicroop 0x202#12) ∧
    decodeMicro ops 0x3FF#12 = .error (.illegalMicroop 0x3FF#12) ∧
    decodeMicro ops 0x500#12 = .error (.illegalMicroop 0x500#12) ∧
    decodeMicro ops 0x800#12 = .error (.illegalMicroop 0x800#12) := by decide

theorem test_decode_host_refusals :
    decodeHost 0x0#4 [] = .error (.reservedOpid 0x0#4) ∧ decodeHost 0x5#4 [] = .error (.reservedOpid 0x5#4) ∧
    decodeHost 0x4#4 [.nat 256, .nat 0, .nat 0] = .error (.operandOutsideType 0x4#4) ∧
    decodeHost 0x2#4 [.nat 0] = .error (.operandOutsideType 0x2#4) := by decide

theorem test_table_word_delay_and_host :
    decodeTableWord 16 0x664 = some (.delay 100#9) ∧ decodeTableWord 8 2 = some .initializeOp ∧
    decodeTableWord 8 0 = none := by decide

/-! ## Operand forms (sections 2.1, 2.4, 2.5; R163) -/

theorem test_pack565_source_rows :
    pack565 255#8 255#8 255#8 = 0xFFFF#16 ∧ pack565 248#8 252#8 248#8 = 0xFFFF#16 ∧
    pack565 255#8 0#8 0#8 = 0xF800#16 := by decide

theorem test_pack565_derived_rows :
    pack565 247#8 251#8 247#8 = 0xF7DE#16 ∧ pack565 0x12#8 0x34#8 0x56#8 = 0x11AA#16 ∧
    pack565 100#8 150#8 200#8 = 0x64B9#16 ∧ pack565 7#8 3#8 7#8 = 0x0000#16 := by decide

theorem test_window4_rows :
    window4 240 = [0x00#8, 0x00#8, 0x00#8, 0xEF#8] ∧ window4 257 = [0x00#8, 0x00#8, 0x01#8, 0x00#8] ∧
    window4 320 = [0x00#8, 0x00#8, 0x01#8, 0x3F#8] ∧ window4 65536 = [0x00#8, 0x00#8, 0xFF#8, 0xFF#8] := by decide

theorem test_frameProg_of_P2 :
    frameProg ops cfg2 fb2 =
      [0x02A#12, 0x100#12, 0x100#12, 0x100#12, 0x101#12, 0x02B#12, 0x100#12, 0x100#12, 0x100#12, 0x101#12, 0x02C#12,
       0x1F8#12, 0x100#12, 0x107#12, 0x1E0#12, 0x100#12, 0x11F#12, 0x1FF#12, 0x1FF#12] := by decide

theorem test_initProg_of_P1 :
    (initProg ops resetCfg).length = 55 ∧ (initProg ops resetCfg)[34]? = some 0x123#12 ∧
    (initProg ops resetCfg)[50]? = some 0x021#12 ∧ (initProg ops resetCfg)[52]? = some 0x678#12 ∧
    (initProg ops resetCfg)[54]? = some 0x401#12 := by decide

theorem test_tableOk_passes :
    tableOk defaultParams .st7789 refSt7789 = true ∧ tableOk defaultParams .ili9341 refIli9341 = true ∧
    tableOk defaultParams .ili9341 (refIli9341 ++ [⟨0xCB, [0x39, 0x2C, 0x00, 0x34, 0x02]⟩]) = true := by decide

theorem test_tableOk_refuses_each :
    tBytes (refSt7789 ++ [⟨256, []⟩]) = false ∧
    tNotOwned ops (tableOf (refSt7789 ++ [⟨0x2C, []⟩])) = false ∧
    tGamma ops (tableOf [⟨0xE0, [0, 0, 0, 0, 0, 0, 0, 0, 0, 0, 0, 0, 0, 0, 0]⟩]) = false ∧
    tColmod defaultParams (tableOf [⟨0x3A, [0x66]⟩]) = false ∧
    tMadctl defaultParams .st7789 (tableOf [⟨0x36, [0x48]⟩]) = false ∧
    tFull ops .st7789 (tableOf (refSt7789.take 8)) = false ∧
    tableOk defaultParams .st7789 [] = false := by decide

theorem test_nn_rows :
    nnDefault 2 100 240 = 1 ∧ nnDefault 119 100 240 = 49 ∧ nnDefault 120 50 240 = 25 ∧ nnDefault 239 50 240 = 49 := by
  decide

theorem test_uniform_resize : resize defaultParams ⟨1, 1, [0xFF#8, 0x00#8, 0x00#8]⟩ 2 1 =
    [0xFF#8, 0x00#8, 0x00#8, 0xFF#8, 0x00#8, 0x00#8] := by decide

/-! ## Register numbers and text (R25, R179, R180, R80) -/

theorem test_codes :
    Phase.initFailed.code = 4#3 ∧ StatusCode.acquisitionError.code = 2#4 ∧
    ContractFault.illegalMicroop.mask = 0b10000#5 := by decide

theorem test_text : microText ops 0x1EF#12 = some "DAT 0xEF" ∧ microText ops 0x678#12 = some "DELAY 120" := by
  decide

/-! ## Wire primitives (section 2.3) -/

theorem test_writeCmd_ok :
    (blockOf (exec .cmdMadctl (busyState .initializeOp (initProg ops cfg2) 4 [.ok]))).map
      (fun b => (b.dc, b.seq.k, b.trace)) = some (.low, 5, [⟨.initializeOp, .byte 0#1 0x36#8⟩]) := by decide

theorem test_writeData_fail :
    (blockOf (exec (.writeData 0x07#8) (busyState .writeFrame (frameProg ops cfg2 fb2) 13 [.fail]))).map
      (fun b => (b.dc, b.seq, b.status, b.trace)) =
      some (.high, ⟨.none, [], 0⟩, ⟨.transferError, 13⟩, [⟨.writeFrame, .lost 1#1 0x07#8⟩]) := by decide

theorem test_setRst :
    (blockOf (exec (.setRst 0#1) (busyState .initializeOp (initProg ops cfg2) 0 []))).map
      (fun b => (b.rst, b.seq.k, b.trace)) = some (.low, 1, [⟨.initializeOp, .rst 0#1⟩]) := by decide

theorem test_setBl :
    (blockOf (exec (.setBl 1#1) (busyState .initializeOp (initProg ops cfg2) 54 []))).map
      (fun b => (b.bl, b.seq.k)) = some (.high, 55) := by decide

theorem test_delay_sets_resetting :
    (blockOf (exec (.delay 100#9) (busyState .initializeOp (initProg ops cfg2) 3 []))).map
      (fun b => (b.phase, b.seq.k)) = some (.resetting, 4) := by decide

theorem test_last_table_word_sets_configuredOff :
    (blockOf (exec .cmdInvon (busyState .initializeOp (initProg ops cfg2) 50 [.ok]))).map
      (fun b => (b.phase, b.seq.k)) = some (.configuredOff, 51) := by decide

theorem test_failed_slpout_sets_initFailed :
    (blockOf (exec .cmdSlpout (busyState .initializeOp (initProg ops cfg2) 51 [.fail]))).map
      (fun b => (b.phase, b.status, b.dc)) = some (.initFailed, ⟨.transferError, 51⟩, .low) := by decide

theorem test_completion :
    (blockOf (step (busyState .initializeOp (initProg ops cfg2) 55 []))).map
      (fun b => (b.phase, b.seq, b.status)) = some (.active, ⟨.none, [], 0⟩, ⟨.ok, 0⟩) := by decide

theorem test_illegal_word :
    (blockOf (step (busyState .initializeOp [0x800#12] 0 []))).map (fun b => (b.faults, b.trace)) =
      some (0b10000#5, []) := by decide

/-! ## Host operations (sections 2.4, 2.6) -/

theorem test_initialize_faults_in_active :
    (blockOf (exec .initializeOp (idleState .active))).map (·.faults) = some 0b00001#5 := by decide

theorem test_initialize_retries :
    (blockOf (exec .initializeOp (idleState .initFailed))).map (fun b => (b.seq.op, b.seq.k, b.seq.prog.length)) =
      some (.initializeOp, 0, 55) := by decide

theorem test_frame_phase_before_size :
    (blockOf (exec (.writeFrame []) (idleState .uninit))).map (·.faults) = some 0b00010#5 := by decide

theorem test_frame_size :
    (blockOf (exec (.writeFrame (fb2.take 11)) (idleState .active))).map (·.faults) = some 0b00100#5 := by decide

theorem test_frame_starts :
    (blockOf (exec (.writeFrame fb2) (idleState .active))).map (fun b => (b.seq.op, b.seq.prog.length)) =
      some (.writeFrame, 19) := by decide

/-- The packer at the green pixel of program P2: `PIX_IN` laid out as in R75, its word as in section 2.1. -/
theorem test_packer_latches :
    (blockOf (step { State.reset with
      block := some { busyBlock .writeFrame (frameProg ops cfg2 fb2) 13 with frame := fb2 }, answers := [.ok] })).map
      (fun b => (b.pixIn, b.pixOut, b.byteOut)) = some (0x00FF00#24, 0x07E0#16, 0x107#9) := by decide

theorem test_pack565_returns :
    retOf (exec (.pack565 1#8 2#8 3#8) (idleState .uninit)) = some (.word 0x0000#16) := by decide

theorem test_busy_issue :
    (blockOf (exec (.pack565 1#8 2#8 3#8) (busyState .writeFrame (frameProg ops cfg2 fb2) 3 []))).map (·.faults) =
      some 0b01000#5 := by decide

theorem test_construct_refuses_sizes :
    refusalOf (exec (.construct .st7789 0 240 ⟨0, 0, 0⟩ ⟨0⟩) (noState [])) = some .configInvalid ∧
    refusalOf (exec (.construct .st7789 65537 1 ⟨0, 0, 0⟩ ⟨0⟩) (noState [])) = some .configInvalid := by decide

theorem test_construct_accepts_65536 :
    (blockOf (exec (.construct .st7789 65536 1 ⟨0, 0, 0⟩ ⟨0⟩) (noState [.ok, .ok, .ok, .ok]))).map
      (fun b => (b.phase, b.cfg.w, b.trace)) = some (.uninit, 65536, []) := by decide

theorem test_construct_third_acquisition_fails :
    blockOf (exec (.construct .st7789 240 240 ⟨0, 0, 0⟩ ⟨0⟩) (noState [.ok, .ok, .fail])) = none ∧
    retOf (exec (.construct .st7789 240 240 ⟨0, 0, 0⟩ ⟨0⟩) (noState [.ok, .ok, .fail])) =
      some (.status .acquisitionError 0) := by decide

/-- U19 of 93_implementation_defined.md: any operation after `ACQUISITION_ERROR`. -/
theorem test_construct_refused_after_failed_acquisition :
    refusalOf (exec (.construct .st7789 240 240 ⟨0, 0, 0⟩ ⟨0⟩) { noState [] with acquisitionFailed := true }) =
      some .noBlock := by decide

theorem test_first_step_of_table_words :
    isNext (step (State.reset.withFetchWord 8 1)) = true ∧ isNext (step (State.reset.withFetchWord 8 2)) = true ∧
    isNext (step (State.reset.withFetchWord 16 0x02A)) = true ∧
    isNext (step (State.reset.withFetchWord 16 0x201)) = true := by decide

theorem test_image_is_resized_and_issued :
    (blockOf (step { idleState .active with host := [⟨.blocking, .image ⟨1, 1, [0xFF#8, 0x00#8, 0x00#8]⟩⟩] })).map
      (fun b => b.seq.prog.drop 11) = some [0x1F8#12, 0x100#12, 0x1F8#12, 0x100#12, 0x1F8#12, 0x100#12, 0x1F8#12,
        0x100#12] := by decide

theorem test_empty_image_refused :
    refusalOf (step { idleState .active with host := [⟨.blocking, .image ⟨0, 1, []⟩⟩] }) = some .emptyImage := by decide

theorem test_second_flow_is_counted_down :
    tickRequests [⟨.overlapping 2, .op 2#4 []⟩, ⟨.blocking, .op 2#4 []⟩] =
      [⟨.overlapping 1, .op 2#4 []⟩, ⟨.blocking, .op 2#4 []⟩] := by decide

/-! ## The panel receiver (section 2.7) -/

/-- Events of a frame, folded. -/
def after (q : Panel) (es : List WireEvent) : Panel := Panel.fold defaultParams .st7789 q (tagged .writeFrame es)

/-- The receiver after a good reset pulse. -/
def resetPanel : Panel := after Panel.initial [.rst 0#1, .delay 100#9, .rst 1#1, .delay 100#9]

/-- A receiver with a 2 by 2 window and a known configuration. -/
def windowPanel : Panel :=
  { Panel.initial with
    sleep := some .sleepOut, disp := some .on, colmod := some 0x55#8, madctl := some 0x00#8
    xs := some 0#16, xe := some 1#16, ys := some 0#16, ye := some 1#16, mode := some .idle, rstLevel := .high
    blLevel := .high }

theorem test_panel_reset :
    (resetPanel.sleep, resetPanel.disp, resetPanel.mode, resetPanel.colmod) =
      (some .sleepIn, some .off, some .idle, none) := by decide

theorem test_panel_short_reset :
    (after Panel.initial [.rst 0#1, .delay 50#9, .rst 1#1, .delay 100#9]).mode = none := by decide

/-- R204: a byte under 100 ms after the line went to 1, after a pulse too short as well. -/
theorem test_panel_early_byte :
    (after Panel.initial [.rst 0#1, .delay 50#9, .rst 1#1, .byte 0#1 0x29#8]).disp = none ∧
    (after Panel.initial [.rst 0#1, .delay 100#9, .rst 1#1, .delay 99#9, .byte 0#1 0x29#8]).disp = none := by decide

/-- R171: after a column window only, `PX` advances though `PY` is unknown. -/
theorem test_panel_column_without_row :
    (after { windowPanel with ys := none, ye := none } [.byte 0#1 0x2C#8, .byte 1#1 0xF8#8, .byte 1#1 0x00#8]).px =
      some 1#16 := by decide

theorem test_panel_caset :
    ((after resetPanel [.byte 0#1 0x2A#8, .byte 1#1 0x00#8, .byte 1#1 0x00#8, .byte 1#1 0x00#8, .byte 1#1 0xEF#8]).xs,
     (after resetPanel [.byte 0#1 0x2A#8, .byte 1#1 0x00#8, .byte 1#1 0x00#8, .byte 1#1 0x00#8, .byte 1#1 0xEF#8]).xe) =
      (some 0#16, some 239#16) := by decide

theorem test_panel_stream :
    (after windowPanel [.byte 0#1 0x2C#8, .byte 1#1 0xF8#8, .byte 1#1 0x00#8, .byte 1#1 0x07#8, .byte 1#1 0xE0#8]).gram =
      [(0, 0xF800#16), (1, 0x07E0#16)] ∧
    (after windowPanel [.byte 0#1 0x2C#8, .byte 1#1 0xF8#8, .byte 1#1 0x00#8, .byte 1#1 0x07#8, .byte 1#1 0xE0#8]).py =
      some 1#16 := by decide

theorem test_panel_short_wake :
    (after resetPanel [.byte 0#1 0x11#8, .byte 0#1 0x29#8]).disp = none ∧
    (after resetPanel [.byte 0#1 0x11#8, .delay 120#9, .byte 0#1 0x29#8]).disp = some .on := by decide

theorem test_panel_unknown_command : (after windowPanel [.byte 0#1 0x10#8]).sleep = none := by decide

theorem test_panel_lost_byte :
    (after windowPanel [.lost 1#1 0x07#8]).sleep = some .sleepOut ∧ (after windowPanel [.lost 1#1 0x07#8]).xs = none := by
  decide

/-! ## Witnesses: each statement's hypotheses met by a concrete case -/

/-- A block that has just begun to send the P2 frame. -/
def frameBlock : Block :=
  { Block.fresh cfg2 0#24 0#16 0#9 with
    phase := .active, rst := .high, bl := .high, seq := ⟨.writeFrame, frameProg ops cfg2 fb2, 0⟩, frame := fb2 }

/-- A state with that block, and the answers to come. -/
def frameState (as : List Answer) : State := { State.reset with block := some frameBlock, answers := as }

theorem witness_DecodeEncodeAgree : ops.distinct = true ∧ (Instr.writeCmd 0xCB#8).wf ops = true := by decide

theorem witness_EncodeDecodedWord : decodeMicro ops 0x2C#12 = .ok .cmdRamwr := by decide

/-- The boundary of each clause of `IllegalMicroWords`: the first reserved kind, the two line kinds, the last legal word. -/
theorem witness_IllegalMicroWords :
    decodeMicro ops 0x800#12 = .error (.illegalMicroop 0x800#12) ∧
    decodeMicro ops 0x3FF#12 = .error (.illegalMicroop 0x3FF#12) ∧
    decodeMicro ops 0x402#12 = .error (.illegalMicroop 0x402#12) ∧
    decodeMicro ops 0x7FF#12 = .ok (.delay 511#9) := by decide

/-- Each clause of `HostBoundaryRefuses`: the boundary values, an operand list of another kind and of another length, and
the host's turn of an idle block, of a busy one with a second flow, and where there is no block. -/
theorem witness_HostBoundaryRefuses :
    ((0#4 : BitVec 4) = 0#4 ∧ 5 ≤ (5#4).toNat ∧ 5 ≤ (15#4).toNat) ∧ (256 ≤ 256) ∧ (∃ n ∈ [0, 256], 256 ≤ n) ∧
    (∀ r g b, [Operand.nat 1, .nat 2] ≠ [.nat r, .nat g, .nat b]) ∧ (∀ ns, [Operand.nat 1] ≠ [.bytes ns]) ∧
    HostTurn (idleState .active) ∧ HostTurn (noState []) ∧
    HostTurn { frameState [] with host := [⟨.overlapping 0, .image ⟨0, 1, []⟩⟩] } ∧
    decodeHost 4#4 [.nat 1, .nat 2] = .error (.operandOutsideType 4#4) ∧
    ([0x00#8] : List Byte).length ≠ 3 * 1 * 1 :=
  ⟨by decide, by decide, by decide, by intro r g b h; simp at h, by intro ns h; simp at h,
    .inr (.inl ⟨_, rfl, rfl, rfl⟩), .inl rfl, .inr (.inr ⟨_, rfl, rfl, rfl⟩), rfl, by decide⟩

theorem test_refusals_of_the_step :
    refusalOf (step { idleState .active with host := [⟨.blocking, .op 7#4 []⟩] }) =
      some (.undecoded (.reservedOpid 7#4)) ∧
    refusalOf (step { idleState .active with host := [⟨.blocking, .image ⟨1, 1, [0x00#8]⟩⟩] }) = some .imageBytes ∧
    refusalOf (step { noState [] with host := [⟨.blocking, .image ⟨0, 1, []⟩⟩] }) = some .noBlock := by decide

theorem witness_MicroReady :
    MicroReady (busyState .initializeOp (initProg ops cfg2) 0 []) (busyBlock .initializeOp (initProg ops cfg2) 0) :=
  ⟨rfl, rfl, by decide, by decide⟩

theorem witness_byte_statements :
    MicroReady (busyState .initializeOp (initProg ops cfg2) 4 [.ok]) (busyBlock .initializeOp (initProg ops cfg2) 4) ∧
    (busyState .initializeOp (initProg ops cfg2) 4 [.ok]).nextAnswer = .ok :=
  ⟨⟨rfl, rfl, by decide, by decide⟩, rfl⟩

theorem witness_FailedByteAborts :
    MicroReady (frameState [.fail]) frameBlock ∧ (frameState [.fail]).nextAnswer = .fail ∧
    byteSentBy ops .cmdCaset = some (0#1, 0x2A#8) :=
  ⟨⟨rfl, rfl, by decide, by decide⟩, rfl, rfl⟩

/-- `PhaseChangesAtStageEnds` at each of its boundaries: `SEQ.K` becomes 4, `4 + S`, and another index. -/
theorem witness_PhaseChangesAtStageEnds :
    (blockOf (exec (.delay 100#9) (busyState .initializeOp (initProg ops cfg2) 3 []))).map (·.seq.k) = some (3 + 1) ∧
    (blockOf (exec .cmdInvon (busyState .initializeOp (initProg ops cfg2) 50 [.ok]))).map (·.seq.k) = some (50 + 1) ∧
    (blockOf (exec (.setRst 0#1) (busyState .initializeOp (initProg ops cfg2) 0 []))).map (·.seq.k) = some (0 + 1) := by
  decide

theorem witness_MicroNeedsOperationInProgress :
    (idleState .active).block = some (idleBlock .active) ∧ (idleBlock .active).faults = 0#5 ∧
    (idleBlock .active).seq.op = .none ∧ (busyBlock .writeFrame [0x100#12] 1).seq.prog.length ≤ 1 ∧
    isHostOp (.delay 1#9) = false := ⟨rfl, rfl, rfl, by decide, rfl⟩

theorem witness_HostReady (p : Phase) : HostReady (idleState p) (idleBlock p) := ⟨rfl, rfl, rfl⟩

theorem witness_ConstructGivesFreshBlock :
    (noState [.ok, .ok, .ok, .ok]).block = none ∧ (noState []).acquisitionFailed = false ∧ 1 ≤ 65536 ∧
    (∀ m, defaultParams.maxCols.get .st7789 = some m → 65536 ≤ m) ∧
    (∀ m, defaultParams.maxRows.get .st7789 = some m → 1 ≤ m) ∧
    tableOk defaultParams .st7789 (defaultParams.initTable.get .st7789) = true :=
  ⟨rfl, rfl, by decide, (by intro m h; cases h), (by intro m h; cases h), by decide⟩

theorem witness_FailedAcquisitionLeavesNoBlock :
    configOk defaultParams .st7789 240 240 = true ∧
    (noState [.ok, .ok, .ok, .fail]).answers = List.replicate 3 .ok ++ .fail :: [] := ⟨by decide, rfl⟩

theorem witness_IllegalConfigurationRefused :
    configOk defaultParams .st7789 0 240 = false ∧ configOk defaultParams .st7789 240 65537 = false ∧
    configOk { defaultParams with maxCols := ⟨some 240, none⟩ } .st7789 241 1 = false ∧
    configOk { defaultParams with maxCols := ⟨some 240, none⟩ } .st7789 240 1 = true ∧
    tableOk { defaultParams with initTable := ⟨[], []⟩ } .st7789 [] = false := by decide

/-- The phases of `InitializeStartsSequence` and `InitializeOutOfPhaseFaults` are all five. -/
theorem witness_initialize_phases :
    HostReady (idleState .uninit) (idleBlock .uninit) ∧ HostReady (idleState .resetting) (idleBlock .resetting) ∧
    (idleBlock .uninit).phase = .uninit ∧ (idleBlock .resetting).phase = .resetting := ⟨⟨rfl, rfl, rfl⟩, ⟨rfl, rfl, rfl⟩, rfl, rfl⟩

theorem witness_frame_sizes :
    (idleBlock .active).phase = .active ∧ fb2.length = 3 * (idleBlock .active).cfg.w * (idleBlock .active).cfg.h ∧
    (fb2.take 11).length ≠ 3 * (idleBlock .active).cfg.w * (idleBlock .active).cfg.h ∧
    (idleBlock .uninit).phase ≠ .active := by decide

theorem witness_BusyIssueFaults :
    (frameState []).block = some frameBlock ∧ frameBlock.faults = 0#5 ∧ frameBlock.seq.op ≠ .none ∧
    isHostOp .initializeOp = true := ⟨rfl, rfl, by decide, rfl⟩

theorem witness_FaultedBlockTakesNoStep :
    faultOf (step { State.reset with block := some { frameBlock with faults := 0b00010#5 } }) =
      some (.contractFaulted 0b00010#5) := by decide

theorem witness_NoBlockNoOperation :
    (noState []).block = none ∧ isConstruct .initializeOp = false ∧
    ({ noState [] with acquisitionFailed := true } : State).acquisitionFailed = true := ⟨rfl, rfl, rfl⟩

theorem witness_WindowParameters : 1 ≤ 1 ∧ 65536 ≤ 65536 ∧ window4 1 = [0x00#8, 0x00#8, 0x00#8, 0x00#8] := by decide

theorem witness_FrameProgWords :
    fb2.length = 3 * cfg2.w * cfg2.h ∧ 3 < cfg2.w * cfg2.h ∧ fb2[9]? = some 0xFF#8 ∧ fb2[10]? = some 0xFF#8 ∧
    fb2[11]? = some 0xFF#8 := by decide

theorem witness_ResizeSamplesPixelCentres :
    defaultParams.nnMap = [] ∧ 1 ≤ 2 ∧ 1 ≤ 1 ∧
    ([0x01#8, 0x02#8, 0x03#8, 0x04#8, 0x05#8, 0x06#8] : List Byte).length = 3 * 2 * 1 := by decide

/-- The clauses of `StepRunsDecodedInstruction`: a word of the list, a pixel's first word and its second, a request of a
waiting host, one of a second flow, and a host whose flows all wait. -/
theorem witness_StepRunsDecodedInstruction :
    (frameState []).overlapDue = false ∧ frameBlock.seq.prog[0]? = some 0x02A#12 ∧
    decodeMicro ops 0x02A#12 = .ok .cmdCaset ∧
    (frameBlock.seq.op = .writeFrame ∧ 17 = 11 + 2 * 3 ∧ frameBlock.frame[11]? = some 0xFF#8 ∧ 12 = 12 + 2 * 0) ∧
    decodeCall (idleState .uninit) (.op 2#4 []) = .ok .initializeOp ∧
    ({ frameState [] with host := [⟨.overlapping 0, .op 2#4 []⟩] } : State).overlapDue = true ∧
    (∀ r ∈ ([⟨.blocking, .op 2#4 []⟩] : List HostRequest), r.flow = .blocking) :=
  ⟨rfl, by decide, by decide, by decide, rfl, rfl, by decide⟩

theorem witness_CompletionReturnsOk :
    (busyBlock .initializeOp (initProg ops cfg2) 55).seq.op ≠ .none ∧
    (busyBlock .initializeOp (initProg ops cfg2) 55).seq.k =
      (busyBlock .initializeOp (initProg ops cfg2) 55).seq.prog.length ∧
    (busyState .initializeOp (initProg ops cfg2) 55 []).overlapDue = false := by decide

theorem witness_IllegalWordFaults :
    MicroReady (busyState .initializeOp [0x800#12] 0 []) (busyBlock .initializeOp [0x800#12] 0) ∧
    (busyBlock .initializeOp [0x800#12] 0).seq.prog[0]? = some 0x800#12 ∧
    decodeMicro ops 0x800#12 = .error (.illegalMicroop 0x800#12) := ⟨⟨rfl, rfl, by decide, by decide⟩, rfl, rfl⟩

theorem witness_IdleBlockWaits : HostReady State.reset (Block.fresh resetCfg 0#24 0#16 0#9) ∧ State.reset.host = [] :=
  ⟨⟨rfl, rfl, rfl⟩, rfl⟩

/-- A frame in progress meets the invariant, and a step and an instruction of it answer a next state. -/
theorem witness_invariants :
    (frameState [.ok]).Inv ∧ isNext (step (frameState [.ok])) = true ∧ frameBlock.seq.op = .writeFrame ∧
    frameBlock.phase = .active ∧ isConstruct .cmdCaset = false ∧ isNext (exec .cmdCaset (frameState [.ok])) = true := by
  refine ⟨⟨?_, fun h => by cases h⟩, by decide, rfl, rfl, rfl, by decide⟩
  intro b hb
  cases hb
  refine ⟨by decide, ?_, ?_, ?_, ?_, ?_, ?_, ?_⟩
  · intro h; cases h
  · intro h; cases h
  · intro _; exact ⟨rfl, by decide, by decide, rfl⟩
  · intro _ h; exact absurd h (by decide)
  · intro h; exact absurd rfl h
  · intro _; exact ⟨rfl, rfl⟩
  · exact .inl rfl

theorem witness_LinesInv :
    (busyState .initializeOp (initProg ops cfg2) 0 []).LinesInv ∧
    isNext (step (busyState .initializeOp (initProg ops cfg2) 0 [])) = true := by
  refine ⟨?_, by decide⟩
  intro b hb
  cases hb
  exact ⟨rfl, rfl, rfl⟩

theorem witness_exec_frame_rules :
    isConstruct (.setRst 0#1) = false ∧ isNext (exec (.setRst 0#1) (busyState .initializeOp (initProg ops cfg2) 0 [])) = true ∧
    (∀ l, (Instr.setRst 0#1) ≠ .setBl l) ∧ byteSentBy ops (.setRst 0#1) = none :=
  ⟨rfl, by decide, by decide, rfl⟩

theorem witness_InitializeReachesActive :
    (busyBlock .initializeOp (initProg ops cfg2) 0).seq = ⟨.initializeOp, initProg ops cfg2, 0⟩ ∧
    (busyState .initializeOp (initProg ops cfg2) 0 (List.replicate 49 .ok)).answers =
      List.replicate ((cfg2.initTable.map fun e => 1 + e.params.length).sum + 2) .ok ++ [] ∧
    (busyState .initializeOp (initProg ops cfg2) 0 []).host = [] := by decide

theorem witness_WriteFrameStreamsFrame :
    cfg2.legal ∧ fb2.length = 3 * cfg2.w * cfg2.h ∧ frameBlock.phase = .active ∧
    frameBlock.seq = ⟨.writeFrame, frameProg ops cfg2 fb2, 0⟩ ∧
    (frameState (List.replicate 19 .ok)).answers = List.replicate (11 + 2 * (cfg2.w * cfg2.h)) .ok ++ [] :=
  ⟨by decide, by decide, rfl, rfl, rfl⟩

theorem witness_WriteFrameAbortIsPrecise :
    18 < 11 + 2 * (cfg2.w * cfg2.h) ∧
    (frameState (List.replicate 18 .ok ++ [.fail])).answers = List.replicate 18 .ok ++ .fail :: [] := by decide

theorem witness_PanelHardwareReset :
    100 ≤ (100#9).toNat ∧ (99#9).toNat < 100 ∧ (0#9).toNat < 100 ∧ Panel.initial.lowFor = none := by decide

/-- R204, R85: a byte lost in `WRITE_FRAME` before the second wait of a pulse has passed. -/
theorem test_panel_early_lost_byte :
    (after windowPanel [.rst 0#1, .delay 100#9, .rst 1#1, .lost 1#1 0x07#8, .delay 100#9]).sleep = none ∧
    (after windowPanel [.rst 0#1, .delay 100#9, .rst 1#1, .lost 1#1 0x07#8, .delay 100#9]).colmod = none := by decide

theorem witness_PanelForgets :
    windowPanel.tooEarly = false ∧ { windowPanel with rstLevel := .low }.tooEarly = true ∧
    { windowPanel with highFor := some 99 }.tooEarly = true ∧ { windowPanel with wakeFor := some 119 }.tooEarly = true ∧
    (0x10#8 : Byte) ∉ [ops.ramwr, ops.slpout, ops.dispon, ops.invon, ops.invoff, ops.caset, ops.raset] ∧
    (0x10#8 : Byte) ∉ configCmds defaultParams .st7789 := by decide

theorem witness_PanelMapsStayCanonical : Memory.wf windowPanel.gram = true ∧ Cells.wf windowPanel.regs = true := by decide

theorem witness_BringUpLightsPanel :
    tNotOwned ops cfg2.initTable = true ∧ tColmod defaultParams cfg2.initTable = true ∧
    tMadctl defaultParams .st7789 cfg2.initTable = true ∧
    (∀ e ∈ cfg2.initTable, e.cmd ∈ configCmds defaultParams .st7789 ∨ e.cmd = ops.invon ∨ e.cmd = ops.invoff) := by
  decide

theorem witness_FramePaintsPanel :
    cfg2.legal ∧ windowPanel.tooEarly = false ∧ windowPanel.madctl = some 0x00#8 ∧
    (0x00#8 : Byte) ∈ defaultParams.madctlOk.get .st7789 ∧ windowPanel.colmod = some 0x55#8 ∧
    (0x55#8 : Byte) ∈ defaultParams.colmod16bpp := ⟨by decide, by decide, rfl, by decide, rfl, by decide⟩

theorem witness_GoodRunShowsFrame :
    ∀ a ∈ [(fb2, some 13), (fb2, none)],
      a.1.length = 3 * cfg2.w * cfg2.h ∧ ∀ n, a.2 = some n → n < 11 + 2 * (cfg2.w * cfg2.h) := by
  intro a ha
  simp only [List.mem_cons, List.not_mem_nil, or_false] at ha
  rcases ha with rfl | rfl
  · exact ⟨by decide, by intro n h; cases h; decide⟩
  · exact ⟨by decide, by intro n h; cases h⟩

end Sys2Proof.Tests
end

section
/-! The window parameters: the end address `n - 1` of a dimension up to 65536 fits the two bytes `window4` gives it
(R74, R137). -/

namespace Sys2Proof.Machine

/-- The high byte of a 16-bit number loses no bit when it is cut to 8 bits. -/
theorem toNat_ofNat_shiftRight_eight {m : Nat} (h : m < 65536) : (BitVec.ofNat 8 (m >>> 8)).toNat = m >>> 8 := by
  have hlt : m >>> 8 < 2 ^ 8 := by rw [Nat.shiftRight_eq_div_pow]; omega
  rw [BitVec.toNat_ofNat, Nat.mod_eq_of_lt hlt]

/-- A number is its bits from 8 up times 256, plus its low byte. -/
theorem shiftRight_eight_mul_add_mod (m : Nat) : (m >>> 8) * 256 + m % 256 = m := by
  rw [Nat.shiftRight_eq_div_pow]
  exact Nat.div_add_mod' m 256

/-- Settles O33: the bytes are those `window4` writes; the bound on `n` is what keeps the high one whole. -/
theorem windowParameters : Obligations.WindowParameters := by
  intro n _ hle
  have hhi : (BitVec.ofNat 8 ((n - 1) >>> 8)).toNat = (n - 1) >>> 8 :=
    toNat_ofNat_shiftRight_eight (by omega)
  have hlo : (BitVec.ofNat 8 (n - 1)).toNat = (n - 1) % 256 := BitVec.toNat_ofNat (n - 1) 8
  refine ⟨BitVec.ofNat 8 ((n - 1) >>> 8), BitVec.ofNat 8 (n - 1), rfl, hhi, hlo, ?_⟩
  rw [hhi, hlo, shiftRight_eight_mul_add_mod]

end Sys2Proof.Machine
end

section
/-! The wire primitives (41_wire_primitives.md): what an instruction that sends a byte does under each answer, what the
other micro-operations do, the words that decode to each of them, and the two steps of the sequencer that run no
instruction. -/

namespace Sys2Proof

/-! ## The words of R67 as the spec writes them: an opcode pattern or-ed with the operand -/

theorem or_setWidth_eq_wordCmd (v : Byte) : 0x000#12 ||| v.setWidth 12 = wordCmd v := rfl

theorem or_setWidth_eq_wordDat (v : Byte) : 0x100#12 ||| v.setWidth 12 = wordDat v := rfl

theorem or_setWidth_eq_wordRst (l : Bit) : 0x200#12 ||| l.setWidth 12 = wordRst l := rfl

theorem or_setWidth_eq_wordBl (l : Bit) : 0x400#12 ||| l.setWidth 12 = wordBl l := rfl

theorem or_setWidth_eq_wordDelay (ms : BitVec 9) : 0x600#12 ||| ms.setWidth 12 = wordDelay ms := rfl

namespace Machine

/-! ## Instructions that send a byte -/

/-- A named command sends the byte of its own row (R77, R82). -/
theorem byteSentBy_of_mem_namedCmds {o : OpBytes} {row : Byte × Instr} (h : row ∈ namedCmds o) :
    byteSentBy o row.2 = some (0#1, row.1) := by
  simp only [namedCmds, List.mem_cons, List.not_mem_nil, or_false] at h
  rcases h with h | h | h | h | h | h | h | h | h | h | h | h | h | h | h <;> subst h <;> rfl

/-- Whether a named row stands for a command byte or not, the instruction it decodes to sends it (R82). -/
theorem byteSentBy_decodeCmd (o : OpBytes) (v : Byte) : byteSentBy o (decodeCmd o v) = some (0#1, v) := by
  unfold decodeCmd
  split
  case h_1 row hfind =>
    have hbyte : row.1 = v := by simpa using List.find?_some hfind
    rw [byteSentBy_of_mem_namedCmds (List.mem_of_find?_eq_some hfind), hbyte]
  case h_2 => rfl

/-- Every instruction that sends a byte means `sendByte` of it (R86, R87, R115). -/
theorem exec_eq_sendByte {s : State} {i : Instr} {dc : Bit} {v : Byte}
    (h : byteSentBy s.params.ops i = some (dc, v)) : exec i s = microOp s (sendByte dc v) := by
  cases i <;> cases h <;> rfl

theorem MicroReady.microOp_eq {s : State} {b : Block} (h : MicroReady s b) (f : State → Block → State) :
    microOp s f = .next (f s b) := by
  obtain ⟨hblock, hfaults, hop, hk⟩ := h
  exact microOp_enabled f hblock hfaults (Block.microEnabled_iff.mpr ⟨hop, hk⟩)

theorem exec_of_byteSentBy_ok {s : State} {b : Block} {i : Instr} {dc : Bit} {v : Byte} (hr : MicroReady s b)
    (hi : byteSentBy s.params.ops i = some (dc, v)) (ha : s.nextAnswer = .ok) :
    exec i s = .next (sentState s b dc v) := by
  rw [exec_eq_sendByte hi, hr.microOp_eq, sendByte_ok ha]
  rfl

theorem exec_of_byteSentBy_fail {s : State} {b : Block} {i : Instr} {dc : Bit} {v : Byte} (hr : MicroReady s b)
    (hi : byteSentBy s.params.ops i = some (dc, v)) (ha : s.nextAnswer = .fail) :
    exec i s = .next (abort s.afterAnswer ((b.present dc v).emit (.lost dc v))) := by
  rw [exec_eq_sendByte hi, hr.microOp_eq, sendByte_fail ha]

/-- Settles O10: the next state is the abort of R95, and each register is read off it. -/
theorem failedByteAborts : Obligations.FailedByteAborts := by
  intro s b i dc v hr ha hi
  refine ⟨_, _, exec_of_byteSentBy_fail hr hi ha, returnToHost_block .., ?_⟩
  exact ⟨rfl, rfl, rfl, rfl, rfl, rfl, rfl, rfl, rfl, rfl, rfl, rfl, rfl, rfl⟩

/-- An instruction that sends a byte sends it as R86 and R87 say, whichever answer comes. -/
theorem sendsByte_of_byteSentBy {s : State} {b : Block} {i : Instr} {dc : Bit} {v : Byte} (hr : MicroReady s b)
    (hi : byteSentBy s.params.ops i = some (dc, v)) : SendsByte i dc v s b := by
  refine ⟨exec_of_byteSentBy_ok hr hi, fun ha => ?_⟩
  obtain ⟨t, b', hexec, hblock, hstatus, hseq, htrace, -, hdc, -⟩ := failedByteAborts s b i dc v hr ha hi
  exact ⟨t, b', hexec, hblock, hdc, htrace, hstatus, hseq⟩

/-- Settles O6: `WRITE_CMD` sends its byte, and so does the named row that a word `0x000 | b` may decode to. -/
theorem writeCmdSendsCommandByte : Obligations.WriteCmdSendsCommandByte := by
  refine ⟨fun s b v hr => sendsByte_of_byteSentBy hr rfl, fun o v => ⟨decodeCmd o v, ?_, byteSentBy_decodeCmd o v⟩⟩
  rw [or_setWidth_eq_wordCmd, decodeMicro_wordCmd]

/-- Settles O7: `WRITE_DATA` sends its byte with the line high. -/
theorem writeDataSendsDataByte : Obligations.WriteDataSendsDataByte := by
  refine ⟨fun s b v hr => sendsByte_of_byteSentBy hr rfl, fun o v => ?_⟩
  rw [or_setWidth_eq_wordDat, decodeMicro_wordDat]

/-! ## The micro-operations that send no byte -/

/-- Settles O11: `SET_RST` sets `RST`, records the event and advances. -/
theorem setRstDrivesResetLine : Obligations.SetRstDrivesResetLine := by
  refine ⟨fun s b l hr => ?_, fun o l => ?_⟩
  · rw [exec, execSetRst, hr.microOp_eq]
    rfl
  · rw [or_setWidth_eq_wordRst, decodeMicro_wordRst]

/-- Settles O12: `SET_BL` sets `BL`, records the event and advances. -/
theorem setBlDrivesBacklight : Obligations.SetBlDrivesBacklight := by
  refine ⟨fun s b l hr => ?_, fun o l => ?_⟩
  · rw [exec, execSetBl, hr.microOp_eq]
    rfl
  · rw [or_setWidth_eq_wordBl, decodeMicro_wordBl]

/-- Settles O13: `DELAY` records the wait and advances. -/
theorem delayRecordsWait : Obligations.DelayRecordsWait := by
  refine ⟨fun s b ms hr => ?_, fun o ms => ?_⟩
  · rw [exec, execDelay, hr.microOp_eq]
    rfl
  · rw [or_setWidth_eq_wordDelay, decodeMicro_wordDelay]

/-! ## The steps of the sequencer that run no instruction -/

/-- With an operation in progress and no second flow due, the step is the sequencer's (R83). -/
theorem fetch_of_busy {s : State} {b : Block} (hb : s.block = some b) (hf : b.faults = 0#5) (hop : b.seq.op ≠ .none)
    (ho : s.overlapDue = false) : fetch s = fetchSeq s.tickHost b := by
  have hbusy : b.busy = true := by simpa [Block.busy] using hop
  simp [fetch, hb, hf, hbusy, ho]

/-- The completion step is taken at the end of the list (R94). -/
theorem fetchSeq_at_end {s : State} {b : Block} (hk : b.seq.k = b.seq.prog.length) :
    fetchSeq s b = .moved (complete s b) := by
  simp [fetchSeq, hk]

/-- A word that does not decode is taken as the contract fault `ILLEGAL_MICROOP` (R97). -/
theorem fetchSeq_illegal {s : State} {b : Block} {u : MicroWord} {e : DecodeError}
    (hu : b.seq.prog[b.seq.k]? = some u) (he : decodeMicro s.params.ops u = .error e) :
    fetchSeq s b = .moved (takeContractFault .illegalMicroop s b) := by
  simp [fetchSeq, hu, he]

theorem step_of_moved {s t : State} (h : fetch s = .moved t) : step s = .next t := by
  simp [step, h]

/-- A block with a contract fault takes no step (R33, R184). -/
theorem step_of_faulted {s : State} {b : Block} (hb : s.block = some b) (hf : b.faults ≠ 0#5) :
    step s = .fault (.contractFaulted b.faults) := by
  simp [step, fetch, hb, hf]

/-- A first contract fault leaves just its own bit in `FAULT` (R180). -/
theorem takeContractFault_of_no_fault (f : ContractFault) (s : State) {b : Block} (hf : b.faults = 0#5) :
    takeContractFault f s b = { s with block := some { b with faults := f.mask } } := by
  simp [takeContractFault, State.setBlock, Block.addFaults, hf]

/-- Settles O38: the next state is the completion of R94, and each register is read off it. -/
theorem completionReturnsOk : Obligations.CompletionReturnsOk := by
  intro s b hb hf hop hk ho
  have hstep : step s = .next (complete s.tickHost b) :=
    step_of_moved ((fetch_of_busy hb hf hop ho).trans (fetchSeq_at_end hk))
  refine ⟨_, _, hstep, returnToHost_block .., ?_⟩
  exact ⟨rfl, rfl, rfl, rfl, rfl, rfl, rfl, rfl, rfl, rfl, rfl, rfl, rfl⟩

/-- Settles O39: the fault is taken by the step that meets the word, and found by the step after it. -/
theorem illegalWordFaults : Obligations.IllegalWordFaults := by
  intro s b u e ⟨hb, hf, hop, _⟩ ho hu he
  have hstep : step s = .next (takeContractFault .illegalMicroop s.tickHost b) :=
    step_of_moved ((fetch_of_busy hb hf hop ho).trans (fetchSeq_illegal hu he))
  have hmask : ContractFault.illegalMicroop.mask ≠ 0#5 := by decide
  refine ⟨?_, step_of_faulted (b := { b with faults := ContractFault.illegalMicroop.mask }) rfl hmask⟩
  rw [hstep, takeContractFault_of_no_fault _ _ hf]
  rfl

end Machine

end Sys2Proof
end

section
/-! The checks of `CONSTRUCT` (42_init_sequence.md): what each named check of `TableOK` says (R114), and the refusal of
a configuration that fails one or is outside its size (R101). -/

namespace Sys2Proof.Machine

/-! ## The named checks of `TableOK` (R114) -/

theorem tBytes_iff (t : List RawEntry) :
    tBytes t = true ↔ ∀ e ∈ t, e.cmd < 256 ∧ ∀ x ∈ e.params, x < 256 := by
  simp [tBytes]

theorem tNotOwned_iff (o : OpBytes) (t : List TableEntry) :
    tNotOwned o t = true ↔ ∀ e ∈ t, e.cmd ≠ o.slpout ∧ e.cmd ≠ o.dispon ∧ e.cmd ≠ o.caset ∧ e.cmd ≠ o.raset ∧
      e.cmd ≠ o.ramwr := by
  simp [tNotOwned]

theorem tGamma_iff (o : OpBytes) (t : List TableEntry) :
    tGamma o t = true ↔
      ∀ e ∈ t, (e.cmd = o.pvgamctrl ∨ e.cmd = o.nvgamctrl) → e.params.length = gammaLen := by
  simp [tGamma, imp_iff_not_or]

theorem hasCmd_iff (t : List TableEntry) (c : Byte) : hasCmd t c = true ↔ ∃ e ∈ t, e.cmd = c := by
  simp [hasCmd]

theorem oneParamIn_iff (ok : List Byte) (e : TableEntry) :
    oneParamIn ok e = true ↔ ∃ b ∈ ok, e.params = [b] := by
  unfold oneParamIn
  split
  case h_1 b hb => simp [hb]
  case h_2 hne => simpa using fun b _ => hne b

/-- Every entry of a command has one parameter, from a given set. -/
theorem all_oneParamIn_iff (ok : List Byte) (c : Byte) (t : List TableEntry) :
    (t.all fun e => !(e.cmd == c) || oneParamIn ok e) = true ↔
      ∀ e ∈ t, e.cmd = c → ∃ b ∈ ok, e.params = [b] := by
  simp [oneParamIn_iff, ← imp_iff_not_or]

theorem tColmod_iff (p : Params) (t : List TableEntry) :
    tColmod p t = true ↔ (∃ e ∈ t, e.cmd = p.ops.colmod) ∧
      ∀ e ∈ t, e.cmd = p.ops.colmod → ∃ b ∈ p.colmod16bpp, e.params = [b] := by
  rw [tColmod, Bool.and_eq_true, hasCmd_iff, all_oneParamIn_iff]

theorem tMadctl_iff (p : Params) (v : Variant) (t : List TableEntry) :
    tMadctl p v t = true ↔ (∃ e ∈ t, e.cmd = p.ops.madctl) ∧
      ∀ e ∈ t, e.cmd = p.ops.madctl → ∃ b ∈ p.madctlOk.get v, e.params = [b] := by
  rw [tMadctl, Bool.and_eq_true, hasCmd_iff, all_oneParamIn_iff]

/-- The commands `T_FULL` asks for: four of every variant, and four more of the `ST7789`. -/
theorem mem_fullCmds (o : OpBytes) (v : Variant) (c : Byte) :
    c ∈ fullCmds o v ↔ c ∈ [o.madctl, o.colmod, o.pvgamctrl, o.nvgamctrl] ∨
      (v = .st7789 ∧ c ∈ [o.porctrl, o.gctrl, o.vcoms, o.lcmctrl]) := by
  cases v
  case st7789 => simp [fullCmds]; tauto
  case ili9341 => simp [fullCmds]

theorem tFull_iff (o : OpBytes) (v : Variant) (t : List TableEntry) :
    tFull o v t = true ↔
      (∀ c ∈ [o.madctl, o.colmod, o.pvgamctrl, o.nvgamctrl], ∃ e ∈ t, e.cmd = c) ∧
      (v = .st7789 → ∀ c ∈ [o.porctrl, o.gctrl, o.vcoms, o.lcmctrl], ∃ e ∈ t, e.cmd = c) ∧
      ∃ e ∈ t, e.cmd = o.invon ∨ e.cmd = o.invoff := by
  have hcmds : (∀ c ∈ fullCmds o v, hasCmd t c = true) ↔
      (∀ c ∈ [o.madctl, o.colmod, o.pvgamctrl, o.nvgamctrl], ∃ e ∈ t, e.cmd = c) ∧
      (v = .st7789 → ∀ c ∈ [o.porctrl, o.gctrl, o.vcoms, o.lcmctrl], ∃ e ∈ t, e.cmd = c) := by
    simp only [mem_fullCmds, hasCmd_iff, or_imp, and_imp, forall_and]
    exact and_congr_right fun _ => forall_comm
  have hinv : (hasCmd t o.invon = true ∨ hasCmd t o.invoff = true) ↔
      ∃ e ∈ t, e.cmd = o.invon ∨ e.cmd = o.invoff := by
    simp only [hasCmd_iff, and_or_left, exists_or]
  rw [tFull, Bool.and_eq_true, Bool.or_eq_true, List.all_eq_true, hcmds, hinv, and_assoc]

/-- Settles O20: `TableOK` is the conjunction of the six checks, each of which says what R114 says. -/
theorem tableOkIsTheNamedChecks : Obligations.TableOkIsTheNamedChecks := by
  intro p v raw
  simp only [tableOk, Bool.and_eq_true, tBytes_iff, tNotOwned_iff, tGamma_iff, tColmod_iff, tMadctl_iff, tFull_iff,
    and_assoc, gammaLen]

/-! ## The refusal of an illegal configuration (R101) -/

/-- A dimension is within its bound exactly when no bound given is below it. -/
theorem withinMax_iff (n : Nat) (bound : Option Nat) : withinMax n bound = true ↔ ∀ m, bound = some m → n ≤ m := by
  cases bound <;> simp [withinMax]

theorem sizeOk_iff (p : Params) (v : Variant) (w h : Nat) :
    sizeOk p v w h = true ↔ 1 ≤ w ∧ w ≤ maxDim ∧ 1 ≤ h ∧ h ≤ maxDim ∧ (∀ m, p.maxCols.get v = some m → w ≤ m) ∧
      ∀ m, p.maxRows.get v = some m → h ≤ m := by
  simp only [sizeOk, Bool.and_eq_true, decide_eq_true_eq, withinMax_iff, and_assoc]

theorem exec_construct_of_not_configOk {s : State} {v : Variant} {w h : Nat} {lines : Lines} {bus : Bus}
    (hb : s.block = none) (ha : s.acquisitionFailed = false) (hc : configOk s.params v w h ≠ true) :
    exec (.construct v w h lines bus) s = .refused .configInvalid := by
  simp [exec, execConstruct, hb, ha, constructChecked, hc]

/-- Settles O18: each way to be illegal contradicts one conjunct of the checks `CONSTRUCT` makes first. -/
theorem illegalConfigurationRefused : Obligations.IllegalConfigurationRefused := by
  intro s v w h lines bus hb ha hbad
  refine exec_construct_of_not_configOk hb ha fun hok => ?_
  rw [configOk, Bool.and_eq_true, sizeOk_iff, maxDim] at hok
  obtain ⟨⟨hw1, hw2, hh1, hh2, hcols, hrows⟩, htable⟩ := hok
  rcases hbad with hw | hw | hh | hh | ⟨m, hm, hlt⟩ | ⟨m, hm, hlt⟩ | hbad
  · omega
  · omega
  · omega
  · omega
  · exact absurd (hcols m hm) (by omega)
  · exact absurd (hrows m hm) (by omega)
  · simp [htable] at hbad

end Sys2Proof.Machine
end

section
/-! A run of the sequencer: each word of `SEQ.PROG` emits one event when it succeeds (R83 to R93), and a list of words
whose bytes are all answered `OK` runs to its end, emitting its events in order. -/

namespace Sys2Proof.Machine

/-! ## Events and the words that emit them -/

/-- The word whose micro-operation emits an event, or would have emitted the byte that was lost (R80, R85). -/
def WireEvent.word : WireEvent → MicroWord
  | .byte dc v => if dc = 0#1 then wordCmd v else wordDat v
  | .lost dc v => if dc = 0#1 then wordCmd v else wordDat v
  | .rst l => wordRst l
  | .bl l => wordBl l
  | .delay ms => wordDelay ms

/-- Whether an event is a byte the transport answered `OK` (R85). -/
def WireEvent.isByte : WireEvent → Bool
  | .byte _ _ => true
  | _ => false

/-- Whether an event is one of a micro-operation that succeeded. -/
def WireEvent.succeeded : WireEvent → Bool
  | .lost _ _ => false
  | _ => true

/-- The block once an event's micro-operation has driven its line (R86, R87, R89, R90). -/
def Block.drive (b : Block) : WireEvent → Block
  | .byte dc v => b.present dc v
  | .lost dc v => b.present dc v
  | .rst l => b.setRst (levelOf l)
  | .bl l => b.setBl (levelOf l)
  | .delay _ => b

/-- The block once the micro-operation at `SEQ.K` has emitted an event and advanced (R83, R31). -/
def Block.perform (b : Block) (e : WireEvent) : Block := ((b.pack.drive e).emit e).advance

/-- The block once a list of events has been emitted in order. -/
def Block.performAll (b : Block) (es : List WireEvent) : Block := es.foldl Block.perform b

/-- The state once an event's answer, if it has one, has been used up (R84). -/
def State.afterEvent (s : State) (e : WireEvent) : State := if e.isByte then s.afterAnswer else s

/-- A data or command word of a byte decodes to an instruction that sends it at that level. -/
theorem decodeMicro_word_byte (o : OpBytes) (dc : Bit) (v : Byte) :
    ∃ i, decodeMicro o (WireEvent.byte dc v).word = .ok i ∧ byteSentBy o i = some (dc, v) := by
  rcases BitVec.eq_zero_or_eq_one dc with rfl | rfl
  · exact ⟨decodeCmd o v, decodeMicro_wordCmd o v, byteSentBy_decodeCmd o v⟩
  · exact ⟨.writeData v, decodeMicro_wordDat o v, rfl⟩

/-! ## What emitting an event leaves -/

@[simp] theorem Block.drive_cfg (b : Block) (e : WireEvent) : (b.drive e).cfg = b.cfg := by cases e <;> rfl
@[simp] theorem Block.drive_seq (b : Block) (e : WireEvent) : (b.drive e).seq = b.seq := by cases e <;> rfl
@[simp] theorem Block.drive_faults (b : Block) (e : WireEvent) : (b.drive e).faults = b.faults := by cases e <;> rfl
@[simp] theorem Block.drive_trace (b : Block) (e : WireEvent) : (b.drive e).trace = b.trace := by cases e <;> rfl

@[simp] theorem Block.perform_cfg (b : Block) (e : WireEvent) : (b.perform e).cfg = b.cfg := by simp [perform]
@[simp] theorem Block.perform_faults (b : Block) (e : WireEvent) : (b.perform e).faults = b.faults := by
  simp [perform]
@[simp] theorem Block.perform_seq (b : Block) (e : WireEvent) :
    (b.perform e).seq = ⟨b.seq.op, b.seq.prog, b.seq.k + 1⟩ := by simp [perform]
@[simp] theorem Block.perform_trace (b : Block) (e : WireEvent) :
    (b.perform e).trace = b.trace ++ tagged b.seq.op [e] := by simp [perform, tagged, emit]
@[simp] theorem Block.perform_dc (b : Block) (e : WireEvent) : (b.perform e).dc = (b.pack.drive e).dc := rfl
@[simp] theorem Block.perform_rst (b : Block) (e : WireEvent) : (b.perform e).rst = (b.pack.drive e).rst := rfl
@[simp] theorem Block.perform_bl (b : Block) (e : WireEvent) : (b.perform e).bl = (b.pack.drive e).bl := rfl

@[simp] theorem Block.performAll_nil (b : Block) : b.performAll [] = b := rfl
@[simp] theorem Block.performAll_cons (b : Block) (e : WireEvent) (es : List WireEvent) :
    b.performAll (e :: es) = (b.perform e).performAll es := rfl
theorem Block.performAll_append (b : Block) (es fs : List WireEvent) :
    b.performAll (es ++ fs) = (b.performAll es).performAll fs := List.foldl_append

@[simp] theorem Block.performAll_cfg (b : Block) (es : List WireEvent) : (b.performAll es).cfg = b.cfg := by
  induction es generalizing b with
  | nil => rfl
  | cons e es ih => simp [ih]

@[simp] theorem Block.performAll_faults (b : Block) (es : List WireEvent) :
    (b.performAll es).faults = b.faults := by
  induction es generalizing b with
  | nil => rfl
  | cons e es ih => simp [ih]

@[simp] theorem Block.performAll_seq (b : Block) (es : List WireEvent) :
    (b.performAll es).seq = ⟨b.seq.op, b.seq.prog, b.seq.k + es.length⟩ := by
  induction es generalizing b with
  | nil => rfl
  | cons e es ih => simp [ih]; omega

@[simp] theorem Block.performAll_trace (b : Block) (es : List WireEvent) :
    (b.performAll es).trace = b.trace ++ tagged b.seq.op es := by
  induction es generalizing b with
  | nil => simp [tagged]
  | cons e es ih => simp [ih, tagged]

/-- Events that drive no reset line leave `RST` as it is. -/
theorem Block.performAll_rst {es : List WireEvent} (h : ∀ e ∈ es, ∀ l, e ≠ .rst l) (b : Block) :
    (b.performAll es).rst = b.rst := by
  induction es generalizing b with
  | nil => rfl
  | cons e es ih =>
    obtain ⟨he, hes⟩ := List.forall_mem_cons.mp h
    rw [performAll_cons, ih hes, perform_rst]
    cases e <;> simp_all [drive]

@[simp] theorem State.afterEvent_params (s : State) (e : WireEvent) : (s.afterEvent e).params = s.params := by
  unfold afterEvent; split <;> rfl
@[simp] theorem State.afterEvent_host (s : State) (e : WireEvent) : (s.afterEvent e).host = s.host := by
  unfold afterEvent; split <;> rfl

/-! ## A host whose flows all wait (R34) -/

theorem overlapDue_of_blocking {s : State} (h : ∀ r ∈ s.host, r.flow = .blocking) : s.overlapDue = false := by
  unfold State.overlapDue
  split
  case h_1 r rest hs => simp [h r (by simp [hs])]
  case h_2 => rfl

theorem tickHost_of_blocking {s : State} (h : ∀ r ∈ s.host, r.flow = .blocking) : s.tickHost = s := by
  have hticks : tickRequests s.host = s.host := by
    unfold tickRequests
    split
    case h_1 n c rest hs => exact absurd (h ⟨.overlapping (n + 1), c⟩ (by simp [hs])) (by simp)
    case h_2 => rfl
  rw [State.tickHost, hticks]
  rfl

/-! ## One step, and many -/

/-- The word of an event that succeeds decodes to an instruction that emits it. -/
theorem exec_word {s : State} {b : Block} {e : WireEvent} (hr : MicroReady s b) (he : e.succeeded = true)
    (ha : e.isByte = true → s.nextAnswer = .ok) :
    ∃ i, decodeMicro s.params.ops e.word = .ok i ∧
      exec i s = .next ((s.afterEvent e).setBlock ((b.drive e).emit e).advance) := by
  cases e with
  | byte dc v =>
    obtain ⟨i, hdec, hi⟩ := decodeMicro_word_byte s.params.ops dc v
    exact ⟨i, hdec, exec_of_byteSentBy_ok hr hi (ha rfl)⟩
  | lost dc v => cases he
  | rst l => exact ⟨.setRst l, decodeMicro_wordRst _ l, setRstDrivesResetLine.1 s b l hr⟩
  | bl l => exact ⟨.setBl l, decodeMicro_wordBl _ l, setBlDrivesBacklight.1 s b l hr⟩
  | delay ms => exact ⟨.delay ms, decodeMicro_wordDelay _ ms, delayRecordsWait.1 s b ms hr⟩

/-- The sequencer's step at a word that decodes runs its instruction, the packer having done its work. -/
theorem step_of_word {s : State} {b : Block} {u : MicroWord} {i : Instr} (hr : MicroReady s b)
    (hh : ∀ r ∈ s.host, r.flow = .blocking) (hu : b.seq.prog[b.seq.k]? = some u)
    (hi : decodeMicro s.params.ops u = .ok i) : step s = exec i (s.setBlock b.pack) := by
  obtain ⟨hb, hf, hop, -⟩ := hr
  simp [step, fetch_of_busy hb hf hop (overlapDue_of_blocking hh), tickHost_of_blocking hh, fetchSeq, hu, hi]

theorem MicroReady.setBlock_pack {s : State} {b : Block} (hr : MicroReady s b) :
    MicroReady (s.setBlock b.pack) b.pack := by
  obtain ⟨-, hf, hop, hk⟩ := hr
  exact ⟨rfl, by simpa using hf, by simpa using hop, by simpa using hk⟩

/-- The sequencer's step at the word of an event emits it. -/
theorem step_of_event {s : State} {b : Block} {e : WireEvent} (hb : s.block = some b) (hf : b.faults = 0#5)
    (hop : b.seq.op ≠ .none) (hh : ∀ r ∈ s.host, r.flow = .blocking) (hu : b.seq.prog[b.seq.k]? = some e.word)
    (he : e.succeeded = true) (ha : e.isByte = true → s.nextAnswer = .ok) :
    step s = .next ((s.afterEvent e).setBlock (b.perform e)) := by
  have hr : MicroReady s b := ⟨hb, hf, hop, (List.getElem?_eq_some_iff.mp hu).1⟩
  obtain ⟨i, hdec, hexec⟩ := exec_word hr.setBlock_pack he ha
  rw [step_of_word hr hh hu hdec, hexec]
  cases e <;> rfl

/-- At the end of its list the sequencer takes the completion step (R94). -/
theorem step_of_end {s : State} {b : Block} (hb : s.block = some b) (hf : b.faults = 0#5) (hop : b.seq.op ≠ .none)
    (hh : ∀ r ∈ s.host, r.flow = .blocking) (hk : b.seq.k = b.seq.prog.length) :
    step s = .next (complete s b) := by
  have hfetch := fetch_of_busy hb hf hop (overlapDue_of_blocking hh)
  rw [tickHost_of_blocking hh, fetchSeq_at_end hk] at hfetch
  exact step_of_moved hfetch

theorem run_succ {s t : State} (h : step s = .next t) (n : Nat) :
    Host.Core.run core (n + 1) s = Host.Core.run core n t := by
  have hcore : core.step s = .next t := h
  simp [Host.Core.run, hcore]

/-- Of the answers a list of events needs, its first event uses up its own. -/
theorem answers_of_cons {s : State} {e : WireEvent} {es : List WireEvent} {rest : List Answer}
    (ha : s.answers = List.replicate ((e :: es).countP WireEvent.isByte) .ok ++ rest) :
    (e.isByte = true → s.nextAnswer = .ok) ∧
      (s.afterEvent e).answers = List.replicate (es.countP WireEvent.isByte) .ok ++ rest := by
  by_cases he : e.isByte = true
  · rw [List.countP_cons_of_pos he, List.replicate_succ, List.cons_append] at ha
    exact ⟨fun _ => State.nextAnswer_cons ha, by simp [State.afterEvent, he, ha]⟩
  · rw [List.countP_cons_of_neg he] at ha
    exact ⟨fun h => absurd h he, by simp [State.afterEvent, he, ha]⟩

/-- Where the next words of the list are those of events that succeed, and their bytes are answered `OK`, a run emits
them in order, one step each, and then goes on from there. -/
theorem run_events {es : List WireEvent} {s : State} {b : Block} {after : List MicroWord} {rest : List Answer}
    (hb : s.block = some b) (hf : b.faults = 0#5) (hop : b.seq.op ≠ .none)
    (hh : ∀ r ∈ s.host, r.flow = .blocking) (hprog : b.seq.prog.drop b.seq.k = es.map WireEvent.word ++ after)
    (hes : ∀ e ∈ es, e.succeeded = true)
    (ha : s.answers = List.replicate (es.countP WireEvent.isByte) .ok ++ rest) :
    ∃ t, (∀ n, Host.Core.run core (es.length + n) s = Host.Core.run core n t) ∧
      t.block = some (b.performAll es) ∧ t.answers = rest ∧ t.host = s.host ∧ t.params = s.params := by
  induction es generalizing s b with
  | nil => exact ⟨s, fun n => by rw [List.length_nil, Nat.zero_add], hb, by simpa using ha, rfl, rfl⟩
  | cons e es ih =>
    obtain ⟨he, hes⟩ := List.forall_mem_cons.mp hes
    obtain ⟨hanswer, hanswers⟩ := answers_of_cons ha
    have hword : b.seq.prog[b.seq.k]? = some e.word := by rw [← List.head?_drop, hprog]; rfl
    have hwords : b.seq.prog.drop (b.seq.k + 1) = es.map WireEvent.word ++ after := by
      rw [← List.tail_drop, hprog]; rfl
    have hstep := step_of_event hb hf hop hh hword he hanswer
    obtain ⟨t, hrun, hblock, hrest, hhost, hparams⟩ :=
      ih (s := (s.afterEvent e).setBlock (b.perform e)) (b := b.perform e) rfl (by simpa using hf) (by simpa using hop)
        (by simpa using hh) (by simpa using hwords) hes hanswers
    refine ⟨t, fun n => ?_, hblock, hrest, by simpa using hhost, by simpa using hparams⟩
    rw [List.length_cons, Nat.succ_add, run_succ hstep, hrun]

/-- A host operation at its start, whose list is the words of events that succeed and whose bytes are all answered `OK`,
emits the events and completes (R94). -/
theorem run_completes {op : SeqOp} {es : List WireEvent} {s : State} {b : Block} {rest : List Answer}
    (hb : s.block = some b) (hf : b.faults = 0#5) (hseq : b.seq = ⟨op, es.map WireEvent.word, 0⟩) (hop : op ≠ .none)
    (hh : ∀ r ∈ s.host, r.flow = .blocking) (hes : ∀ e ∈ es, e.succeeded = true)
    (ha : s.answers = List.replicate (es.countP WireEvent.isByte) .ok ++ rest) :
    ∃ t, Host.Core.run core (es.length + 1) s = .next (complete t (b.performAll es)) ∧ t.answers = rest ∧
      t.host = s.host ∧ t.params = s.params := by
  obtain ⟨t, hrun, hblock, hrest, hhost, hparams⟩ :=
    run_events (after := []) hb hf (by simpa [hseq] using hop) hh (by simp [hseq]) hes ha
  have hend : step t = .next (complete t (b.performAll es)) :=
    step_of_end hblock (by simpa using hf) (by simpa [hseq] using hop) (hhost ▸ hh) (by simp [hseq])
  refine ⟨t, ?_, hrest, hhost, hparams⟩
  rw [hrun, run_succ hend]
  rfl

end Sys2Proof.Machine
end

section
/-! `INITIALIZE` (42_init_sequence.md): its refusal out of phase (R103), its list (R104) and the run of the whole of it
(R111). -/

namespace Sys2Proof.Machine

theorem HostReady.hostOp_eq {s : State} {b : Block} (h : HostReady s b)
    (f : State → Block → Host.Outcome State Fault Refusal) : hostOp s f = f s b := by
  obtain ⟨hb, hf, hop⟩ := h
  rw [hostOp_some hb, issueOn_idle hf (by simp [Block.busy, hop])]

/-- Settles O22: the phase fails the check of R102, and the fault is the block's first. -/
theorem initializeOutOfPhaseFaults : Obligations.InitializeOutOfPhaseFaults := by
  intro s b hr hphase
  have hne : ¬ (b.phase = .uninit ∨ b.phase = .initFailed) := by
    rcases hphase with h | h | h <;> simp [h]
  have ⟨_, hf, _⟩ := hr
  rw [exec, execInitialize, hr.hostOp_eq, if_neg hne, takeContractFault_of_no_fault _ _ hf]
  rfl

/-! ## The list of `INITIALIZE` (R104) -/

theorem tableProg_eq_flatten (t : List TableEntry) :
    tableProg t = (t.map fun e => wordCmd e.cmd :: e.params.map wordDat).flatten := by
  induction t with
  | nil => rfl
  | cons e t ih => simp [tableProg, regProg, ih]

theorem length_entryEvents (e : TableEntry) : (entryEvents e).length = 1 + e.params.length := by
  simp [entryEvents, Nat.add_comm]

/-- Every event of a table entry is a byte. -/
theorem isByte_of_mem_entryEvents {e : TableEntry} {ev : WireEvent} (h : ev ∈ entryEvents e) : ev.isByte = true := by
  rcases List.mem_cons.mp h with rfl | h
  · rfl
  · obtain ⟨v, -, rfl⟩ := List.mem_map.mp h
    rfl

/-- Every event of the table is a byte. -/
theorem isByte_of_mem_tableEvents {t : List TableEntry} {ev : WireEvent} (h : ev ∈ t.flatMap entryEvents) :
    ev.isByte = true := by
  obtain ⟨e, -, hev⟩ := List.mem_flatMap.mp h
  exact isByte_of_mem_entryEvents hev

theorem length_tableEvents (t : List TableEntry) :
    (t.flatMap entryEvents).length = (t.map fun e => 1 + e.params.length).sum := by
  simp only [List.length_flatMap, length_entryEvents]

theorem tableProg_eq_map_word (t : List TableEntry) : tableProg t = (t.flatMap entryEvents).map WireEvent.word := by
  induction t with
  | nil => rfl
  | cons e t ih =>
    have hentry : regProg e.cmd e.params = (entryEvents e).map WireEvent.word := by
      simp [regProg, entryEvents, WireEvent.word]
    rw [tableProg, List.flatMap_cons, List.map_append, ih, hentry]

/-- The words of `InitProg` are those that emit the events of `INITIALIZE`. -/
theorem initProg_eq_map_word (o : OpBytes) (cfg : Cfg) : initProg o cfg = (initEvents o cfg).map WireEvent.word := by
  rw [initProg, initEvents, tableProg_eq_map_word, List.map_append, List.map_append]
  rfl

theorem length_initProg (o : OpBytes) (cfg : Cfg) : (initProg o cfg).length = (initEvents o cfg).length := by
  rw [initProg_eq_map_word, List.length_map]

theorem length_initEvents (o : OpBytes) (cfg : Cfg) :
    (initEvents o cfg).length = 8 + (cfg.initTable.map fun e => 1 + e.params.length).sum := by
  simp only [initEvents, List.length_append, length_tableEvents, List.length_cons, List.length_nil]
  omega

/-- Settles O34: the table's words entry by entry, and one word for each event. -/
theorem initProgWords : Obligations.InitProgWords := by
  intro o cfg
  constructor
  · rw [initProg, tableProg_eq_flatten]
    rfl
  · rw [length_initProg, length_initEvents]

/-! ## The events of `INITIALIZE` -/

/-- The bytes of `INITIALIZE` are the table's, `SLPOUT` and `DISPON`. -/
theorem countP_isByte_initEvents (o : OpBytes) (cfg : Cfg) :
    (initEvents o cfg).countP WireEvent.isByte = (cfg.initTable.map fun e => 1 + e.params.length).sum + 2 := by
  have htable : (cfg.initTable.flatMap entryEvents).countP WireEvent.isByte =
      (cfg.initTable.map fun e => 1 + e.params.length).sum := by
    rw [List.countP_eq_length.mpr fun _ => isByte_of_mem_tableEvents, length_tableEvents]
  simp [initEvents, htable, WireEvent.isByte, List.countP_cons]

theorem WireEvent.succeeded_of_isByte {e : WireEvent} (h : e.isByte = true) : e.succeeded = true := by
  cases e with
  | lost => cases h
  | _ => rfl

theorem succeeded_of_mem_initEvents (o : OpBytes) (cfg : Cfg) : ∀ e ∈ initEvents o cfg, e.succeeded = true := by
  simp only [initEvents, List.forall_mem_append]
  refine ⟨⟨?reset, ?table⟩, ?wake⟩
  case reset => simp [WireEvent.succeeded]
  case table => exact fun e he => WireEvent.succeeded_of_isByte (isByte_of_mem_tableEvents he)
  case wake => simp [WireEvent.succeeded]

/-- After its first three events `INITIALIZE` leaves the reset line alone, so it stays released. -/
theorem Block.performAll_initEvents_rst (b : Block) (o : OpBytes) (cfg : Cfg) :
    (b.performAll (initEvents o cfg)).rst = .high := by
  have hwake : ∀ e ∈ [.byte 0#1 o.slpout, .delay 120#9, .byte 0#1 o.dispon, .bl 1#1],
      ∀ l, e ≠ WireEvent.rst l := by simp
  have htable : ∀ e ∈ cfg.initTable.flatMap entryEvents, ∀ l, e ≠ .rst l := by
    rintro e he l rfl
    cases isByte_of_mem_tableEvents he
  rw [initEvents, performAll_append, performAll_append, performAll_rst hwake, performAll_rst htable]
  simp [drive, levelOf]

/-- The last byte of `INITIALIZE` is a command, and its last event turns the backlight on. -/
theorem Block.performAll_initEvents_dc_bl (b : Block) (o : OpBytes) (cfg : Cfg) :
    (b.performAll (initEvents o cfg)).dc = .low ∧ (b.performAll (initEvents o cfg)).bl = .high := by
  rw [initEvents, performAll_append]
  simp [drive, levelOf]

/-- Settles O52: the run emits the events of the list, one a step, and the step after the last is the completion. -/
theorem initializeReachesActive : Obligations.InitializeReachesActive := by
  intro s b rest hb hf hseq hh ha
  rw [initProg_eq_map_word] at hseq
  rw [← countP_isByte_initEvents s.params.ops] at ha
  obtain ⟨t, hrun, hanswers, hhost, hparams⟩ :=
    run_completes hb hf hseq (by simp) hh (succeeded_of_mem_initEvents _ _) ha
  have hsteps : 9 + (b.cfg.initTable.map fun e => 1 + e.params.length).sum =
      (initEvents s.params.ops b.cfg).length + 1 := by
    rw [length_initEvents]; omega
  have hrst := b.performAll_initEvents_rst s.params.ops b.cfg
  obtain ⟨hdc, hbl⟩ := b.performAll_initEvents_dc_bl s.params.ops b.cfg
  rw [hsteps]
  refine ⟨_, _, hrun, returnToHost_block .., ?_⟩
  simp [complete, Block.phaseOnComplete, Seq.idle, hseq, hf, hrst, hdc, hbl, length_initEvents, hanswers, hhost,
    hparams]

end Sys2Proof.Machine
end

section
/-! The host's side of a step: what the host boundary decodes is a host operation (R71, R152), and one issued while
another is in progress is `BUSY_ISSUE` (R189). -/

namespace Sys2Proof.Machine

theorem orOutsideType_eq_ok {opid : BitVec 4} {d : Option Instr} {i : Instr} :
    orOutsideType opid d = .ok i ↔ d = some i := by
  cases d <;> simp [orOutsideType]

/-- What a selector and its operands decode to is a host operation (R71). -/
theorem isHostOp_of_decodeHost {opid : BitVec 4} {operands : List Operand} {i : Instr}
    (h : decodeHost opid operands = .ok i) : isHostOp i = true := by
  unfold decodeHost at h
  split_ifs at h
  case pos => -- CONSTRUCT
    rw [orOutsideType_eq_ok, decodeConstruct.eq_def] at h
    split at h <;> cases h
    rfl
  case pos => -- INITIALIZE
    rw [orOutsideType_eq_ok, decodeInitialize.eq_def] at h
    split at h <;> cases h
    rfl
  case pos => -- WRITE_FRAME
    rw [orOutsideType_eq_ok, decodeWriteFrame.eq_def] at h
    split at h
    · obtain ⟨fb, -, rfl⟩ := Option.map_eq_some_iff.mp h
      rfl
    · cases h
  case pos => -- PACK565
    rw [orOutsideType_eq_ok, decodePack565.eq_def] at h
    split at h
    · split at h <;> cases h
      rfl
    · cases h

/-- What a call of the host decodes to is a host operation (R71, R152). -/
theorem isHostOp_of_decodeCall {s : State} {c : HostCall} {i : Instr} (h : decodeCall s c = .ok i) :
    isHostOp i = true := by
  cases c with
  | op opid operands =>
    rw [decodeCall] at h
    split at h
    case h_1 j hj =>
      cases h
      exact isHostOp_of_decodeHost hj
    case h_2 => cases h
  | image img =>
    rw [decodeCall, decodeImage.eq_def] at h
    split at h
    · cases h
    · split_ifs at h
      cases h
      rfl

/-- A host operation issued while one is in progress is `BUSY_ISSUE` (R189). -/
theorem exec_hostOp_of_busy {s : State} {b : Block} {i : Instr} (hi : isHostOp i = true) (hb : s.block = some b)
    (hf : b.faults = 0#5) (hop : b.seq.op ≠ .none) : exec i s = .next (takeContractFault .busyIssue s b) := by
  have hbusy : b.busy = true := by simpa [Block.busy] using hop
  have hissue : ∀ f, issueOn s b f = .next (takeContractFault .busyIssue s b) := fun f => issueOn_busy hf hbusy
  cases i with
  | construct v w h lines bus => rw [exec, execConstruct, hb]; exact hissue _
  | initializeOp => exact (hostOp_some hb _).trans (hissue _)
  | writeFrame fb => exact (hostOp_some hb _).trans (hissue _)
  | pack565 r g b => exact (hostOp_some hb _).trans (hissue _)
  | _ => cases hi

/-- The host's side of a step that runs no instruction is the wait of a host with nothing left to ask. -/
theorem fetchHost_moved {s t : State} (h : fetchHost s = .moved t) : t = s := by
  unfold fetchHost at h
  split at h
  · cases h
    rfl
  · split at h <;> cases h

end Sys2Proof.Machine
end

section
/-! `WRITE_FRAME` (43_window_write.md): its two contract faults (R133, R134), its list (R135), what its steps leave
alone (R149), and the run of the whole of it (R146). -/

namespace Sys2Proof.Machine

/-! ## The contract faults of `WRITE_FRAME` -/

/-- Settles O24: the phase is looked at before the frame's length, and the fault is the block's first. -/
theorem earlyFrameFaults : Obligations.EarlyFrameFaults := by
  intro s b fb hr hphase
  have ⟨_, hf, _⟩ := hr
  rw [exec, execWriteFrame, hr.hostOp_eq, if_neg hphase, takeContractFault_of_no_fault _ _ hf]
  rfl

/-- Settles O25: in `ACTIVE` the length fails its check, and the fault is the block's first. -/
theorem wrongSizeFrameFaults : Obligations.WrongSizeFrameFaults := by
  intro s b fb hr hphase hlen
  have ⟨_, hf, _⟩ := hr
  have hsize : fb.length ≠ frameBytes b.cfg := hlen
  rw [exec, execWriteFrame, hr.hostOp_eq, if_pos hphase, if_neg hsize, takeContractFault_of_no_fault _ _ hf]
  rfl

/-! ## The list of `WRITE_FRAME` (R135) and the events it emits -/

/-- A frame buffer of the panel's size has `W * H` pixels (R43). -/
theorem pixels_of_length_eq {cfg : Cfg} {fb : List Byte} (h : fb.length = 3 * cfg.w * cfg.h) :
    fb.length / 3 = cfg.w * cfg.h := by
  rw [h, Nat.mul_assoc, Nat.mul_div_cancel_left _ (by decide)]

/-- Every whole pixel is two words, and bytes past the last one are none. -/
theorem length_streamProg : ∀ fb : List Byte, (streamProg fb).length = 2 * (fb.length / 3)
  | [] | [_] | [_, _] => by simp [streamProg]
  | _ :: _ :: _ :: fb => by
    simp only [streamProg, pixelProg, List.length_append, List.length_cons, List.length_nil, length_streamProg fb]
    omega

/-- The two words of pixel `i` (R141, R142). -/
theorem streamProg_pixel {fb : List Byte} {i : Nat} {r g b : Byte} (hr : fb[3 * i]? = some r)
    (hg : fb[3 * i + 1]? = some g) (hb : fb[3 * i + 2]? = some b) :
    (streamProg fb)[2 * i]? = some (wordDat (hiByte (pack565 r g b))) ∧
      (streamProg fb)[2 * i + 1]? = some (wordDat (loByte (pack565 r g b))) := by
  induction i generalizing fb with
  | zero =>
    match fb with
    | [] | [_] | [_, _] => simp at hb
    | r' :: g' :: b' :: fb =>
      cases hr
      cases hg
      cases hb
      exact ⟨rfl, rfl⟩
  | succ i ih =>
    match fb with
    | [] | [_] | [_, _] => simp at hb
    | r' :: g' :: b' :: fb =>
      simp only [Nat.mul_succ, Nat.add_right_comm, List.getElem?_cons_succ] at hr hg hb
      exact ih hr hg hb

/-- The words before the pixel stream are eleven. -/
theorem frameProg_getElem?_add (o : OpBytes) (cfg : Cfg) (fb : List Byte) (j : Nat) :
    (frameProg o cfg fb)[11 + j]? = (streamProg fb)[j]? := by
  rw [frameProg, List.getElem?_append_right (by simp [windowProg, regProg, window4])]
  congr 1
  simp [windowProg, regProg, window4]

theorem streamProg_eq_map_word : ∀ fb : List Byte, streamProg fb = (streamEvents fb).map WireEvent.word
  | [] | [_] | [_, _] => rfl
  | _ :: _ :: _ :: fb => by simp [streamProg, streamEvents, pixelProg, WireEvent.word, streamProg_eq_map_word fb]

/-- The words of `FrameProg` are those that emit the events of `WRITE_FRAME`. -/
theorem frameProg_eq_map_word (o : OpBytes) (cfg : Cfg) (fb : List Byte) :
    frameProg o cfg fb = (frameEvents o cfg fb).map WireEvent.word := by
  rw [frameProg, frameEvents, streamProg_eq_map_word, List.map_append]
  rfl

theorem length_frameProg (o : OpBytes) (cfg : Cfg) (fb : List Byte) :
    (frameProg o cfg fb).length = 11 + 2 * (fb.length / 3) := by
  simp only [frameProg, windowProg, regProg, window4, List.length_append, List.length_cons, List.length_map,
    List.length_nil, length_streamProg]

theorem length_frameEvents (o : OpBytes) (cfg : Cfg) (fb : List Byte) :
    (frameEvents o cfg fb).length = 11 + 2 * (fb.length / 3) := by
  rw [← length_frameProg o cfg fb, frameProg_eq_map_word, List.length_map]

/-- Settles O35: eleven words, and then the two words of each pixel. -/
theorem frameProgWords : Obligations.FrameProgWords := by
  intro o cfg fb hlen
  refine ⟨?_, ?_, fun i r g b _ hr hg hb => ?_⟩
  · rw [length_frameProg, pixels_of_length_eq hlen]
  · simp [frameProg, windowProg, regProg, window4, Nat.shiftRight_eq_div_pow, wordCmd, wordDat]
  · obtain ⟨hhi, hlo⟩ := streamProg_pixel hr hg hb
    have hnext : 12 + 2 * i = 11 + (2 * i + 1) := by omega
    rw [hnext, frameProg_getElem?_add, frameProg_getElem?_add]
    exact ⟨hhi, hlo⟩

/-- Every event of a frame buffer's pixels is a data byte. -/
theorem eq_dataByte_of_mem_streamEvents : ∀ {fb : List Byte} {e : WireEvent},
    e ∈ streamEvents fb → ∃ v, e = .byte 1#1 v
  | r :: g :: b :: fb, e, h => by
    rcases List.mem_cons.mp h with hhi | h
    · exact ⟨_, hhi⟩
    · rcases List.mem_cons.mp h with hlo | h
      · exact ⟨_, hlo⟩
      · exact eq_dataByte_of_mem_streamEvents h
  | [], _, h | [_], _, h | [_, _], _, h => by cases h

/-- Every event of `WRITE_FRAME` is a byte. -/
theorem isByte_of_mem_frameEvents {o : OpBytes} {cfg : Cfg} {fb : List Byte} :
    ∀ e ∈ frameEvents o cfg fb, e.isByte = true := by
  rw [frameEvents, List.forall_mem_append]
  refine ⟨?windows, fun e he => ?stream⟩
  case windows => simp [window4, WireEvent.isByte]
  case stream =>
    obtain ⟨v, rfl⟩ := eq_dataByte_of_mem_streamEvents he
    rfl

theorem WireEvent.eq_byte_of_isByte {e : WireEvent} (h : e.isByte = true) : ∃ dc v, e = .byte dc v := by
  cases e with
  | byte dc v => exact ⟨dc, v, rfl⟩
  | _ => cases h

/-! ## What the steps of `WRITE_FRAME` leave alone (R149) -/

/-- The block that was `b` is still there, with `RST`, `BL` and `PHASE` as they were. -/
def Block.KeptIn (b : Block) (t : State) : Prop :=
  ∃ b', t.block = some b' ∧ b'.rst = b.rst ∧ b'.bl = b.bl ∧ b'.phase = b.phase

theorem Block.phaseAt_of_ne {b : Block} (h : b.seq.op ≠ .initializeOp) (k : Nat) : b.phaseAt k = b.phase :=
  if_neg h

/-- A contract fault drives no line. -/
theorem Block.keptIn_takeContractFault (b : Block) (f : ContractFault) (s : State) :
    b.KeptIn (takeContractFault f s b) := ⟨_, rfl, rfl, rfl, rfl⟩

/-- A return to the host that leaves `PHASE` as it is drives no line (R94, R95). -/
theorem Block.keptIn_returnToHost {b : Block} {p : Phase} (h : p = b.phase) (s : State) (t : Status) :
    b.KeptIn (returnToHost s b p t) := ⟨_, returnToHost_block .., by simp, by simp, by simpa using h⟩

/-- The completion of a `WRITE_FRAME` drives no line (R94). -/
theorem Block.keptIn_complete {b : Block} (h : b.seq.op ≠ .initializeOp) (s : State) : b.KeptIn (complete s b) :=
  keptIn_returnToHost (if_neg h) s _

/-- The abort of a `WRITE_FRAME` drives no line (R95). -/
theorem Block.keptIn_abort {b : Block} (h : b.seq.op ≠ .initializeOp) (s : State) : b.KeptIn (abort s b) :=
  keptIn_returnToHost (if_neg h) s _

/-- A byte of a `WRITE_FRAME`, sent or lost, drives the data/command line only (R86, R95). -/
theorem Block.keptIn_sendByte {b : Block} (h : b.seq.op ≠ .initializeOp) (dc : Bit) (v : Byte) (s : State) :
    b.KeptIn (sendByte dc v s b) := by
  rcases sendByte_cases dc v s b with ⟨-, hsent⟩ | ⟨-, hlost⟩
  · rw [hsent]
    exact ⟨_, State.setBlock_block .., by simp, by simp, b.phaseAt_of_ne h _⟩
  · rw [hlost]
    have habort := keptIn_abort (b := (b.present dc v).emit (.lost dc v)) h s.afterAnswer
    simpa [KeptIn] using habort

/-- Packing changes none of the three either. -/
theorem Block.keptIn_of_pack {b : Block} {t : State} (h : b.pack.KeptIn t) : b.KeptIn t := by
  simpa [KeptIn] using h

/-- The host's turn in the middle of an operation drives no line: all it can bring is `BUSY_ISSUE` (R189). -/
theorem Block.keptIn_of_hostStep {s t : State} {b : Block} (hb : s.block = some b) (hf : b.faults = 0#5)
    (hop : b.seq.op ≠ .none) (hfetch : fetch s = fetchHost s) (hstep : step s = .next t) : b.KeptIn t := by
  rcases step_next hstep with ⟨i, u, hrun, hexec⟩ | hmoved
  · obtain ⟨r, rest, -, hcall, rfl⟩ := fetchHost_run (hfetch ▸ hrun)
    rw [exec_hostOp_of_busy (s := s.setHost rest) (isHostOp_of_decodeCall hcall) hb hf hop] at hexec
    cases hexec
    exact b.keptIn_takeContractFault _ _
  · rw [hfetch] at hmoved
    cases fetchHost_moved hmoved
    exact ⟨b, hb, rfl, rfl, rfl⟩

/-- An instruction the sequencer of a `WRITE_FRAME` runs sends a byte. -/
theorem byteSentBy_of_frameProg {o : OpBytes} {cfg : Cfg} {fb : List Byte} {k : Nat} {u : MicroWord} {i : Instr}
    (hu : (frameProg o cfg fb)[k]? = some u) (hi : decodeMicro o u = .ok i) :
    ∃ dc v, byteSentBy o i = some (dc, v) := by
  rw [frameProg_eq_map_word, List.getElem?_map, Option.map_eq_some_iff] at hu
  obtain ⟨e, he, rfl⟩ := hu
  obtain ⟨dc, v, rfl⟩ := WireEvent.eq_byte_of_isByte (isByte_of_mem_frameEvents e (List.mem_of_getElem? he))
  obtain ⟨j, hj, hsent⟩ := decodeMicro_word_byte o dc v
  rw [hi] at hj
  cases hj
  exact ⟨dc, v, hsent⟩

/-- The sequencer's step of a `WRITE_FRAME` drives the data/command line only. -/
theorem Block.keptIn_of_seqStep {s t : State} {b : Block} {fb : List Byte} (hop : b.seq.op = .writeFrame)
    (hprog : b.seq.prog = frameProg s.params.ops b.cfg fb) (hfetch : fetch s = fetchSeq s.tickHost b)
    (hstep : step s = .next t) : b.KeptIn t := by
  have hne : b.seq.op ≠ .initializeOp := by simp [hop]
  rcases step_next hstep with ⟨i, u, hrun, hexec⟩ | hmoved
  · obtain ⟨w, hw, hi, rfl⟩ := fetchSeq_run (hfetch ▸ hrun)
    obtain ⟨dc, v, hsent⟩ := byteSentBy_of_frameProg (hprog ▸ hw) hi
    rw [exec_eq_sendByte (s := s.tickHost.setBlock b.pack) hsent] at hexec
    obtain ⟨c, hc, -, -, rfl⟩ := microOp_next hexec
    cases hc
    exact keptIn_of_pack (keptIn_sendByte (by simpa using hne) dc v _)
  · rcases fetchSeq_moved (hfetch ▸ hmoved) with ⟨w, e, -, -, rfl⟩ | ⟨-, rfl⟩
    · exact b.keptIn_takeContractFault _ _
    · exact keptIn_complete hne _

/-- Settles O50: the invariant gives the levels and the phase, and whosever turn the step is, it keeps them. -/
theorem frameDrivesOnlyDc : Obligations.FrameDrivesOnlyDc := by
  rintro s t b ⟨hinv, -⟩ hb hop hstep
  obtain ⟨-, -, -, hframe, -, -, hactive, -⟩ := hinv b hb
  obtain ⟨hphase, -, -, hprog⟩ := hframe hop
  obtain ⟨hrst, hbl⟩ := hactive hphase
  have hbusy : b.seq.op ≠ .none := by simp [hop]
  have hf : b.faults = 0#5 := by
    by_contra hfaulted
    rw [step_of_faulted hb hfaulted] at hstep
    cases hstep
  have hkept : b.KeptIn t := by
    cases ho : s.overlapDue with
    | true => exact Block.keptIn_of_hostStep hb hf hbusy (fetch_of_idle hb hf (.inr ho)) hstep
    | false => exact Block.keptIn_of_seqStep hop hprog (fetch_of_busy hb hf hbusy ho) hstep
  obtain ⟨b', hb', hrst', hbl', hphase'⟩ := hkept
  exact ⟨b', hb', hrst', hbl', hrst'.trans hrst, hbl'.trans hbl, hphase'.trans hphase⟩

/-! ## The run of `WRITE_FRAME` (R145, R146) -/

@[simp] theorem Block.drive_phase (b : Block) (e : WireEvent) : (b.drive e).phase = b.phase := by cases e <;> rfl

/-- Bytes leave `RST` and `BL` as they are. -/
theorem Block.performAll_rst_bl {es : List WireEvent} (h : ∀ e ∈ es, e.isByte = true) (b : Block) :
    (b.performAll es).rst = b.rst ∧ (b.performAll es).bl = b.bl := by
  induction es generalizing b with
  | nil => exact ⟨rfl, rfl⟩
  | cons e es ih =>
    obtain ⟨he, hes⟩ := List.forall_mem_cons.mp h
    cases e with
    | byte dc v => simpa [drive] using ih hes (b.perform (.byte dc v))
    | _ => cases he

/-- Only the events of `INITIALIZE` change `PHASE` (R26). -/
theorem Block.performAll_phase {b : Block} (h : b.seq.op ≠ .initializeOp) (es : List WireEvent) :
    (b.performAll es).phase = b.phase := by
  induction es generalizing b with
  | nil => rfl
  | cons e es ih =>
    rw [performAll_cons, ih (by simpa using h), perform, advance_phase, phaseAt_of_ne (by simpa using h)]
    simp

/-- After bytes of one level the data/command line is at that level. -/
theorem Block.performAll_dc {es : List WireEvent} {dc : Bit} (h : ∀ e ∈ es, ∃ v, e = .byte dc v) (hne : es ≠ [])
    (b : Block) : (b.performAll es).dc = levelOf dc := by
  induction es generalizing b with
  | nil => exact absurd rfl hne
  | cons e es ih =>
    obtain ⟨⟨v, rfl⟩, hes⟩ := List.forall_mem_cons.mp h
    cases es with
    | nil => rfl
    | cons e' es => exact ih hes (by simp) _

theorem streamEvents_ne_nil {fb : List Byte} (h : 3 ≤ fb.length) : streamEvents fb ≠ [] := by
  match fb with
  | r :: g :: b :: fb => simp [streamEvents]

/-- The last byte of a frame that has a pixel is data, so the line is left high. -/
theorem Block.performAll_frameEvents_dc (b : Block) (o : OpBytes) (cfg : Cfg) {fb : List Byte} (h : 3 ≤ fb.length) :
    (b.performAll (frameEvents o cfg fb)).dc = .high := by
  rw [frameEvents, performAll_append,
    performAll_dc (fun _ => eq_dataByte_of_mem_streamEvents) (streamEvents_ne_nil h)]
  rfl

/-- Settles O53: the run emits the events of the list, one a step, and the step after the last is the completion. -/
theorem writeFrameStreamsFrame : Obligations.WriteFrameStreamsFrame := by
  rintro s b fb rest hb hf ⟨hw, -, hh, -⟩ hlen hphase hseq hblocking ha
  have hop : b.seq.op = .writeFrame := by rw [hseq]
  rw [frameProg_eq_map_word] at hseq
  have hevents : (frameEvents s.params.ops b.cfg fb).length = 11 + 2 * (b.cfg.w * b.cfg.h) := by
    rw [length_frameEvents, pixels_of_length_eq hlen]
  have hbytes : (frameEvents s.params.ops b.cfg fb).countP WireEvent.isByte = 11 + 2 * (b.cfg.w * b.cfg.h) := by
    rw [List.countP_eq_length.mpr isByte_of_mem_frameEvents, hevents]
  obtain ⟨t, hrun, hanswers, hhost, hparams⟩ := run_completes hb hf hseq (by simp) hblocking
    (fun e he => e.succeeded_of_isByte (isByte_of_mem_frameEvents e he)) (hbytes ▸ ha)
  have hpixel : 3 ≤ fb.length := by
    rw [hlen, Nat.mul_assoc]
    exact Nat.le_mul_of_pos_right 3 (Nat.mul_pos hw hh)
  have hdc := b.performAll_frameEvents_dc s.params.ops b.cfg hpixel
  obtain ⟨hrst, hbl⟩ := b.performAll_rst_bl (es := frameEvents s.params.ops b.cfg fb) isByte_of_mem_frameEvents
  have hactive := (b.performAll_phase (by simp [hop]) (frameEvents s.params.ops b.cfg fb)).trans hphase
  have hsteps : 12 + 2 * (b.cfg.w * b.cfg.h) = (frameEvents s.params.ops b.cfg fb).length + 1 := by
    rw [hevents]; omega
  rw [hsteps]
  refine ⟨_, _, hrun, returnToHost_block .., ?_⟩
  simp [complete, Block.phaseOnComplete, Seq.idle, hop, hf, hactive, hrst, hbl, hdc, hevents, hanswers, hhost, hparams]

end Sys2Proof.Machine
end

section
/-! The packer (44_pixel_packer.md). A packed word is its three kept fields side by side; what it is as a number, as two
wire bytes, and what it forgets of its pixel follow from that. -/

namespace Sys2Proof.Machine

/-! ## The packed word as its fields (R155, R156) -/

/-- A channel shifted down by `k` has the `len` bits that are left of its eight. -/
theorem shiftRight_lt_two_pow (x : Byte) {k len : Nat} (h : k + len = 8) : x.toNat >>> k < 2 ^ len := by
  rw [Nat.shiftRight_eq_div_pow, Nat.div_lt_iff_lt_mul (Nat.two_pow_pos k), ← Nat.pow_add, Nat.add_comm, h]
  exact x.isLt

/-- The bits of a channel from `k` up are the channel shifted down by `k`. -/
theorem toNat_extractLsb'_top (x : Byte) {k len : Nat} (h : k + len = 8) :
    (x.extractLsb' k len).toNat = x.toNat >>> k := by
  rw [BitVec.extractLsb'_toNat, Nat.mod_eq_of_lt (shiftRight_lt_two_pow x h)]

theorem setWidth_extractLsb'_top (x : Byte) {k len : Nat} (h : k + len = 8) :
    (x.extractLsb' k len).setWidth 16 = x.setWidth 16 >>> k := by
  apply BitVec.eq_of_toNat_eq
  have hx : x.toNat < 2 ^ 16 := Nat.lt_trans x.isLt (by decide)
  have hk : x.toNat >>> k < 2 ^ 16 := Nat.lt_of_le_of_lt (Nat.shiftRight_le _ _) hx
  rw [BitVec.toNat_setWidth, toNat_extractLsb'_top x h, BitVec.toNat_ushiftRight, BitVec.toNat_setWidth,
    Nat.mod_eq_of_lt hx, Nat.mod_eq_of_lt hk]

/-- The packed word is `{r[7:3], g[7:2], b[7:3]}`. -/
theorem pack565_eq_fields (r g b : Byte) :
    pack565 r g b = r.extractLsb' 3 5 ++ g.extractLsb' 2 6 ++ b.extractLsb' 3 5 := by
  have hcat := BitVec.setWidth_append_append_eq_shiftLeft_setWidth_or (w''' := 16) (b := r.extractLsb' 3 5)
    (b' := g.extractLsb' 2 6) (b'' := b.extractLsb' 3 5)
  rw [setWidth_extractLsb'_top r rfl, setWidth_extractLsb'_top g rfl, setWidth_extractLsb'_top b rfl] at hcat
  exact hcat.symm.trans (BitVec.setWidth_eq _)

/-- The three fields of a word are read back from where they were put. -/
theorem extractLsb'_fields (x : BitVec 5) (y : BitVec 6) (z : BitVec 5) :
    (x ++ y ++ z : Word16).extractLsb' 11 5 = x ∧ (x ++ y ++ z : Word16).extractLsb' 5 6 = y ∧
      (x ++ y ++ z : Word16).extractLsb' 0 5 = z := by
  refine ⟨?_, ?_, BitVec.extractLsb'_append_eq_right⟩
  · exact (BitVec.extractLsb'_append_eq_of_le (by decide)).trans BitVec.extractLsb'_append_eq_left
  · exact (BitVec.extractLsb'_append_eq_of_le (by decide)).trans BitVec.extractLsb'_append_eq_right

/-- A word is its three fields. -/
theorem fields_append (w : Word16) : w.extractLsb' 11 5 ++ w.extractLsb' 5 6 ++ w.extractLsb' 0 5 = w := by
  rw [BitVec.extractLsb'_append_extractLsb'_eq_extractLsb' (start₂ := 11) (start₁ := 5) (len₁ := 6) rfl]
  exact BitVec.extractLsb'_append_extractLsb'

theorem pack565_fields (r g b : Byte) :
    (pack565 r g b).extractLsb' 11 5 = r.extractLsb' 3 5 ∧ (pack565 r g b).extractLsb' 5 6 = g.extractLsb' 2 6 ∧
      (pack565 r g b).extractLsb' 0 5 = b.extractLsb' 3 5 := by
  rw [pack565_eq_fields]
  exact extractLsb'_fields _ _ _

/-! ## The operation `PACK565` (R155, R161) -/

@[simp] theorem byteOf_toNat (b : Byte) : byteOf b.toNat = some b := by
  rw [byteOf, if_pos b.isLt, BitVec.ofNat_toNat, BitVec.setWidth_eq]

theorem decodePack565_channels (r g b : Byte) :
    decodePack565 [.nat r.toNat, .nat g.toNat, .nat b.toNat] = some (.pack565 r g b) := by
  simp only [decodePack565, byteOf_toNat]

/-- Settles O26: the selector leads to the packer's own decoder, and an idle block's operation is its meaning. -/
theorem pack565ReturnsWord : Obligations.Pack565ReturnsWord := by
  refine ⟨fun r g b => ?_, fun s b red green blue hr => ?_⟩
  · exact orOutsideType_eq_ok.mpr (decodePack565_channels r g b)
  · rw [exec, execPack565, hr.hostOp_eq]
    rfl

/-! ## The packed word as a number (R156, R157) -/

theorem toNat_pack565 (r g b : Byte) :
    (pack565 r g b).toNat = (((r.toNat >>> 3) <<< 6) ||| (g.toNat >>> 2)) <<< 5 ||| (b.toNat >>> 3) := by
  rw [pack565_eq_fields, BitVec.toNat_append, BitVec.toNat_append, toNat_extractLsb'_top r rfl,
    toNat_extractLsb'_top g rfl, toNat_extractLsb'_top b rfl]

/-- Settles O30: the fields do not overlap, so `|` of them is their sum, and each is below its power of two. -/
theorem packedWordLaw : Obligations.PackedWordLaw := by
  intro r g b
  have hr : r.toNat >>> 3 < 2 ^ 5 := shiftRight_lt_two_pow r rfl
  have hg : g.toNat >>> 2 < 2 ^ 6 := shiftRight_lt_two_pow g rfl
  have hb : b.toNat >>> 3 < 2 ^ 5 := shiftRight_lt_two_pow b rfl
  obtain ⟨hred, hgreen, hblue⟩ := pack565_fields r g b
  refine ⟨?_, ?_, hr, hg, hb, ?_, hred, hgreen, hblue, Nat.le_of_lt_succ (pack565 r g b).isLt, by decide⟩
  · rw [toNat_pack565, Nat.shiftLeft_or_distrib, ← Nat.shiftLeft_add]
  · rw [toNat_pack565, ← Nat.shiftLeft_add_eq_or_of_lt hg, ← Nat.shiftLeft_add_eq_or_of_lt hb, Nat.shiftLeft_eq,
      Nat.shiftLeft_eq]
    omega
  · rw [Nat.shiftLeft_eq]
    omega

/-! ## What the packed word forgets (R158) -/

theorem pack565_eq_iff (r g b r' g' b' : Byte) : pack565 r g b = pack565 r' g' b' ↔
    r.extractLsb' 3 5 = r'.extractLsb' 3 5 ∧ g.extractLsb' 2 6 = g'.extractLsb' 2 6 ∧
      b.extractLsb' 3 5 = b'.extractLsb' 3 5 := by
  constructor
  · intro h
    obtain ⟨hr, hg, hb⟩ := pack565_fields r g b
    obtain ⟨hr', hg', hb'⟩ := pack565_fields r' g' b'
    rw [← hr, ← hg, ← hb, h]
    exact ⟨hr', hg', hb'⟩
  · rintro ⟨hr, hg, hb⟩
    rw [pack565_eq_fields, pack565_eq_fields, hr, hg, hb]

/-- The eight bits of a pixel that packing drops: `{r[2:0], g[1:0], b[2:0]}`. -/
def droppedBits (t : Byte × Byte × Byte) : Byte :=
  t.1.extractLsb' 0 3 ++ t.2.1.extractLsb' 0 2 ++ t.2.2.extractLsb' 0 3

/-- The pixel that packs to a word and drops the given bits. -/
def unpack565 (w : Word16) (dropped : Byte) : Byte × Byte × Byte :=
  (w.extractLsb' 11 5 ++ dropped.extractLsb' 5 3, w.extractLsb' 5 6 ++ dropped.extractLsb' 3 2,
    w.extractLsb' 0 5 ++ dropped.extractLsb' 0 3)

theorem pack565_unpack565 (w : Word16) (d : Byte) :
    pack565 (unpack565 w d).1 (unpack565 w d).2.1 (unpack565 w d).2.2 = w := by
  rw [pack565_eq_fields, unpack565, BitVec.extractLsb'_append_eq_left, BitVec.extractLsb'_append_eq_left,
    BitVec.extractLsb'_append_eq_left]
  exact fields_append w

theorem droppedBits_unpack565 (w : Word16) (d : Byte) : droppedBits (unpack565 w d) = d := by
  rw [droppedBits, unpack565, BitVec.extractLsb'_append_eq_right, BitVec.extractLsb'_append_eq_right,
    BitVec.extractLsb'_append_eq_right,
    BitVec.extractLsb'_append_extractLsb'_eq_extractLsb' (start₂ := 5) (start₁ := 3) (len₁ := 2) rfl]
  exact BitVec.extractLsb'_append_extractLsb'

theorem unpack565_pack565 (t : Byte × Byte × Byte) :
    unpack565 (pack565 t.1 t.2.1 t.2.2) (droppedBits t) = t := by
  obtain ⟨r, g, b⟩ := t
  obtain ⟨hr, hg, hb⟩ := pack565_fields r g b
  have hr' : (droppedBits (r, g, b)).extractLsb' 5 3 = r.extractLsb' 0 3 :=
    (BitVec.extractLsb'_append_eq_of_le (by decide)).trans BitVec.extractLsb'_append_eq_left
  have hg' : (droppedBits (r, g, b)).extractLsb' 3 2 = g.extractLsb' 0 2 :=
    (BitVec.extractLsb'_append_eq_of_le (by decide)).trans BitVec.extractLsb'_append_eq_right
  have hb' : (droppedBits (r, g, b)).extractLsb' 0 3 = b.extractLsb' 0 3 := BitVec.extractLsb'_append_eq_right
  simp only [unpack565, hr, hg, hb, hr', hg', hb', Prod.mk.injEq]
  exact ⟨BitVec.extractLsb'_append_extractLsb', BitVec.extractLsb'_append_extractLsb',
    BitVec.extractLsb'_append_extractLsb'⟩

/-- Settles O31: the triples that pack to a word are the word unpacked with each of the 256 choices of dropped bits. -/
theorem packingIsLossy : Obligations.PackingIsLossy := by
  refine ⟨pack565_eq_iff, fun w => ⟨fun n => unpack565 w (BitVec.ofFin n), fun m n h => ?_, fun t => ⟨?_, ?_⟩⟩⟩
  · have hbits := congrArg droppedBits h
    simp only [droppedBits_unpack565] at hbits
    exact congrArg BitVec.toFin hbits
  · rintro rfl
    exact ⟨(droppedBits t).toFin, unpack565_pack565 t⟩
  · rintro ⟨n, rfl⟩
    exact pack565_unpack565 w _

/-! ## The packed word on the wire (R160) -/

/-- The packed word is `{r[7:3], g[7:5]}` above `{g[4:2], b[7:3]}`. -/
theorem pack565_eq_joinBytes (r g b : Byte) : pack565 r g b =
    joinBytes (r.extractLsb' 3 5 ++ g.extractLsb' 5 3) (g.extractLsb' 2 3 ++ b.extractLsb' 3 5) := by
  have hg : g.extractLsb' 2 6 = g.extractLsb' 5 3 ++ g.extractLsb' 2 3 :=
    (BitVec.extractLsb'_append_extractLsb'_eq_extractLsb' (start₁ := 2) (len₁ := 3) (len₂ := 3) rfl).symm
  rw [pack565_eq_fields, hg, joinBytes, BitVec.append_assoc', BitVec.cast_eq]
  exact (BitVec.append_assoc' (x₁ := r.extractLsb' 3 5 ++ g.extractLsb' 5 3)).symm

@[simp] theorem hiByte_joinBytes (hi lo : Byte) : hiByte (joinBytes hi lo) = hi := BitVec.extractLsb'_append_eq_left

@[simp] theorem loByte_joinBytes (hi lo : Byte) : loByte (joinBytes hi lo) = lo := BitVec.extractLsb'_append_eq_right

/-- Settles O32: the two bytes are the halves of the packed word, and one pixel's stream is their two data words. -/
theorem packedWordWireBytes : Obligations.PackedWordWireBytes := by
  intro r g b
  have hhi : hiByte (pack565 r g b) = r.extractLsb' 3 5 ++ g.extractLsb' 5 3 := by
    rw [pack565_eq_joinBytes, hiByte_joinBytes]
  have hlo : loByte (pack565 r g b) = g.extractLsb' 2 3 ++ b.extractLsb' 3 5 := by
    rw [pack565_eq_joinBytes, loByte_joinBytes]
  refine ⟨hhi, hlo, ?_⟩
  simp only [streamProg, pixelProg, hhi, hlo, wordDat, List.append_nil]

end Sys2Proof.Machine
end

section
/-! The panel's two maps (45_panel_receiver.md R165): every event leaves `GRAM` and `REGS` as they are, empties them,
or changes them at one key, and so keeps their canonical form. -/

namespace Sys2Proof.Machine

/-- `GRAM` and `REGS` are in canonical form (R165). -/
def Panel.Canonical (q : Panel) : Prop := Memory.wf q.gram = true ∧ Cells.wf q.regs = true

theorem Panel.canonical_forgetAll (q : Panel) : q.forgetAll.Canonical := ⟨rfl, rfl⟩

variable {p : Params} {v : Variant} {q : Panel}

/-- An unknown command forgets both maps; every other leaves them. -/
theorem Panel.Canonical.command (h : q.Canonical) (c : Byte) : (q.command p v c).Canonical := by
  unfold Panel.command
  split_ifs
  case neg => exact q.canonical_forgetAll
  all_goals exact h

theorem Panel.Canonical.setColumns (h : q.Canonical) (l : List Byte) : (q.setColumns l).Canonical := by
  unfold Panel.setColumns
  split <;> exact h

theorem Panel.Canonical.setRows (h : q.Canonical) (l : List Byte) : (q.setRows l).Canonical := by
  unfold Panel.setRows
  split <;> exact h

/-- A parameter byte writes `REGS` at its command's key or leaves it, and never touches `GRAM`. -/
theorem Panel.Canonical.param (h : q.Canonical) (c : Byte) (l : List Byte) : (q.param p v c l).Canonical := by
  have ⟨hgram, hregs⟩ := h
  have h' : { q with mode := some (.params c l) }.Canonical := h
  unfold Panel.param
  split_ifs
  · exact h'.setColumns l
  · exact h'.setRows l
  iterate 4 exact h
  · exact ⟨hgram, Cells.write_wf hregs⟩
  · exact h

/-- The second byte of a pixel writes one cell of `GRAM`, forgets it, or forgets the whole. -/
theorem Panel.Canonical.pixel (h : q.Canonical) (hi lo : Byte) : (q.pixel p v hi lo).Canonical := by
  have ⟨hgram, hregs⟩ := h
  refine ⟨?_, hregs⟩
  change Cells.wf (q.gramAfter p v hi lo) = true
  unfold Panel.gramAfter
  split
  · split
    · rfl
    · split
      · exact Cells.write_wf hgram
      · exact Cells.forget_wf hgram
  · rfl

theorem Panel.Canonical.data (h : q.Canonical) (d : Byte) : (q.data p v d).Canonical := by
  unfold Panel.data
  split
  case h_1 => exact q.canonical_forgetAll
  case h_2 => exact h
  case h_3 => exact h.param ..
  case h_4 => exact h
  case h_5 => exact h.pixel ..

theorem Panel.Canonical.startWake (h : q.Canonical) (dc : Bit) (b : Byte) : (q.startWake p dc b).Canonical := by
  simpa only [Panel.Canonical, Panel.startWake_gram, Panel.startWake_regs] using h

theorem Panel.Canonical.byte (h : q.Canonical) (dc : Bit) (b : Byte) : (q.byte p v dc b).Canonical := by
  have h' : { q with resetDue := false }.Canonical := h
  refine Panel.Canonical.startWake ?_ dc b
  split
  · exact Panel.canonical_forgetAll _
  · split
    · exact h'.command b
    · exact h'.data b

theorem Panel.Canonical.lost (h : q.Canonical) (op : SeqOp) (dc : Bit) (b : Byte) : (q.lost p op dc b).Canonical := by
  have ⟨_, hregs⟩ := h
  refine Panel.Canonical.startWake ?_ dc b
  split
  · exact Panel.canonical_forgetAll _
  · cases op with
    | writeFrame => exact ⟨rfl, hregs⟩
    | initializeOp | none => exact Panel.canonical_forgetAll _

theorem Panel.Canonical.reset (h : q.Canonical) (l : Bit) : (q.reset l).Canonical := by
  unfold Panel.reset Panel.resetLow Panel.resetHigh
  split
  · split
    · exact ⟨rfl, rfl⟩
    · exact h
  · split <;> split
    case isTrue => exact ⟨rfl, rfl⟩
    case h_1.isFalse => exact h
    case h_2.isTrue => exact h
    case h_2.isFalse => exact ⟨rfl, rfl⟩

/-- The end of a reset pulse leaves the maps or, as a hardware reset, forgets them. -/
theorem Panel.Canonical.endHigh (h : q.Canonical) : q.endHigh.Canonical := by
  unfold Panel.endHigh
  split
  · exact ⟨rfl, rfl⟩
  · exact h

theorem Panel.Canonical.wait (h : q.Canonical) (ms : Nat) : (q.wait ms).Canonical := by
  cases hhigh : q.highFor with
  | none => rwa [Panel.wait_of_none hhigh]
  | some n =>
    by_cases hms : n + ms < 100
    · rwa [Panel.wait_short hhigh hms]
    · rw [Panel.wait_long hhigh (Nat.not_lt.mp hms)]
      exact Panel.Canonical.endHigh h

theorem Panel.Canonical.event (h : q.Canonical) (e : TraceEntry) : (q.event p v e).Canonical := by
  unfold Panel.event
  split
  case h_1 => exact h.byte ..
  case h_2 => exact h.lost ..
  case h_3 => exact h.reset ..
  case h_4 => exact h
  case h_5 => exact h.wait ..

/-- Settles O57: event by event, and the initial maps are empty. -/
theorem panelMapsStayCanonical : Obligations.PanelMapsStayCanonical :=
  ⟨fun _ _ _ e hgram hregs => Panel.Canonical.event ⟨hgram, hregs⟩ e, rfl, rfl⟩

end Sys2Proof.Machine
end

section
/-! One byte at the panel receiver (R168, R169): what a command the sequencer sends makes of the receiver, what a data
byte makes of it in each `MODE`, and what no byte but `SLPOUT` touches (R170, R176). -/

namespace Sys2Proof

/-! ## Which command bytes differ (R77, R82) -/

theorem OpBytes.nodup_of_distinct {o : OpBytes} (h : o.distinct = true) : o.toList.Nodup := of_decide_eq_true h

/-- The commands of the window and of the two one-byte registers differ from each other. -/
theorem OpBytes.nodup_params {o : OpBytes} (h : o.distinct = true) : [o.caset, o.raset, o.madctl, o.colmod].Nodup := by
  have hd := OpBytes.nodup_of_distinct h
  simp only [OpBytes.toList, List.nodup_cons, List.mem_cons, List.not_mem_nil, or_false, not_or] at hd ⊢
  grind

/-- They are none of the commands that act at once. -/
theorem OpBytes.not_mem_of_params {o : OpBytes} {c : Byte} (h : o.distinct = true)
    (hc : c ∈ [o.caset, o.raset, o.madctl, o.colmod]) : c ∉ [o.ramwr, o.slpout, o.dispon, o.invon, o.invoff] := by
  have hd := OpBytes.nodup_of_distinct h
  simp only [OpBytes.toList, List.nodup_cons, List.mem_cons, List.not_mem_nil, or_false, not_or] at hd hc ⊢
  rcases hc with rfl | rfl | rfl | rfl
  all_goals grind

/-- The commands of the wake-up differ from each other and from `RAMWR`. -/
theorem OpBytes.nodup_acting {o : OpBytes} (h : o.distinct = true) : [o.ramwr, o.slpout, o.dispon].Nodup := by
  have hd := OpBytes.nodup_of_distinct h
  simp only [OpBytes.toList, List.nodup_cons, List.mem_cons, List.not_mem_nil, or_false, not_or] at hd ⊢
  grind

end Sys2Proof

namespace Sys2Proof.Machine

variable {p : Params} {v : Variant} {q r : Panel} {c : Byte}

/-! ## The lines and the running times: only `SLPOUT` starts one (R170, R176) -/

/-- What the receiver tracks of the lines and of time is the same in both states (R164). -/
def Panel.SameTracking (q r : Panel) : Prop :=
  r.rstLevel = q.rstLevel ∧ r.blLevel = q.blLevel ∧ r.lowFor = q.lowFor ∧ r.highFor = q.highFor ∧ r.wakeFor = q.wakeFor

theorem Panel.SameTracking.refl (q : Panel) : q.SameTracking q := ⟨rfl, rfl, rfl, rfl, rfl⟩

theorem Panel.SameTracking.trans {q r t : Panel} (h : q.SameTracking r) (h' : r.SameTracking t) : q.SameTracking t := by
  obtain ⟨hrst, hbl, hlow, hhigh, hwake⟩ := h
  obtain ⟨hrst', hbl', hlow', hhigh', hwake'⟩ := h'
  exact ⟨hrst'.trans hrst, hbl'.trans hbl, hlow'.trans hlow, hhigh'.trans hhigh, hwake'.trans hwake⟩

theorem Panel.SameTracking.tooEarly_eq (h : q.SameTracking r) : r.tooEarly = q.tooEarly := by
  obtain ⟨hrst, -, -, hhigh, hwake⟩ := h
  rw [Panel.tooEarly, hrst, hhigh, hwake, ← Panel.tooEarly]

theorem Panel.sameTracking_command (q : Panel) (c : Byte) : q.SameTracking (q.command p v c) := by
  unfold Panel.command
  split_ifs <;> exact .refl q

theorem Panel.sameTracking_setColumns (q : Panel) (l : List Byte) : q.SameTracking (q.setColumns l) := by
  unfold Panel.setColumns
  split <;> exact .refl q

theorem Panel.sameTracking_setRows (q : Panel) (l : List Byte) : q.SameTracking (q.setRows l) := by
  unfold Panel.setRows
  split <;> exact .refl q

theorem Panel.sameTracking_param (q : Panel) (c : Byte) (l : List Byte) : q.SameTracking (q.param p v c l) := by
  unfold Panel.param
  split_ifs
  · exact Panel.sameTracking_setColumns { q with mode := some (.params c l) } l
  · exact Panel.sameTracking_setRows { q with mode := some (.params c l) } l
  all_goals exact .refl q

theorem Panel.sameTracking_data (q : Panel) (d : Byte) : q.SameTracking (q.data p v d) := by
  unfold Panel.data
  split
  case h_3 => exact q.sameTracking_param ..
  all_goals exact .refl q

/-- A byte that is no `SLPOUT` command, in whatever state. -/
theorem Panel.sameTracking_byte (q : Panel) {dc : Bit} {b : Byte} (h : dc = 0#1 → b ≠ p.ops.slpout) :
    q.SameTracking (q.byte p v dc b) := by
  rw [Panel.byte, Panel.startWake_of_ne h]
  split_ifs
  · exact .refl q
  · exact Panel.sameTracking_command { q with resetDue := false } b
  · exact Panel.sameTracking_data { q with resetDue := false } b

/-! ## Folding events -/

@[simp] theorem Panel.fold_nil (q : Panel) : q.fold p v [] = q := rfl

@[simp] theorem Panel.fold_cons (q : Panel) (e : TraceEntry) (t : List TraceEntry) :
    q.fold p v (e :: t) = (q.event p v e).fold p v t := rfl

theorem Panel.fold_append (q : Panel) (t u : List TraceEntry) :
    q.fold p v (t ++ u) = (q.fold p v t).fold p v u := List.foldl_append ..

@[simp] theorem tagged_nil (op : SeqOp) : tagged op [] = [] := rfl

@[simp] theorem tagged_cons (op : SeqOp) (e : WireEvent) (es : List WireEvent) :
    tagged op (e :: es) = ⟨op, e⟩ :: tagged op es := rfl

theorem tagged_append (op : SeqOp) (es fs : List WireEvent) : tagged op (es ++ fs) = tagged op es ++ tagged op fs :=
  List.map_append

@[simp] theorem Panel.event_byte (q : Panel) (op : SeqOp) (dc : Bit) (b : Byte) :
    q.event p v ⟨op, .byte dc b⟩ = q.byte p v dc b := rfl

/-- No byte of a list without a `SLPOUT` command touches the lines or the running times. -/
theorem Panel.sameTracking_fold (op : SeqOp) {es : List WireEvent} (q : Panel)
    (h : ∀ e ∈ es, ∃ dc b, e = .byte dc b ∧ (dc = 0#1 → b ≠ p.ops.slpout)) :
    q.SameTracking (q.fold p v (tagged op es)) := by
  induction es generalizing q with
  | nil => exact .refl q
  | cons e es ih =>
    obtain ⟨⟨dc, b, rfl, hb⟩, hes⟩ := List.forall_mem_cons.mp h
    exact (q.sameTracking_byte hb).trans (ih _ hes)

/-! ## Bytes that do not come too early -/

/-- A command other than `SLPOUT` only acts as its command (R168). -/
theorem Panel.byte_command_of_ne (h : q.tooEarly = false) (hc : c ≠ p.ops.slpout) :
    q.byte p v 0#1 c = { q with resetDue := false }.command p v c := by
  rw [Panel.byte_command h, Panel.startWake_of_ne fun _ => hc]

/-- While parameters are taken, a data byte joins their list (R169). -/
theorem Panel.byte_data_params {d : Byte} {l : List Byte} (h : q.tooEarly = false)
    (hm : q.mode = some (.params c l)) :
    q.byte p v 1#1 d = { q with resetDue := false }.param p v c (l ++ [d]) := by
  simp only [Panel.byte_data h, Panel.data, hm]

/-- With no parameters expected, a data byte is ignored (R169). -/
theorem Panel.byte_data_idle {d : Byte} (h : q.tooEarly = false) (hm : q.mode = some .idle) :
    q.byte p v 1#1 d = { q with resetDue := false } := by
  simp only [Panel.byte_data h, Panel.data, hm]

/-- A command that takes parameters starts its list (R168). -/
theorem Panel.command_of_params (hc : c ∉ [p.ops.ramwr, p.ops.slpout, p.ops.dispon, p.ops.invon, p.ops.invoff])
    (h : c = p.ops.caset ∨ c = p.ops.raset ∨ c ∈ configCmds p v) :
    q.command p v c = { q with mode := some (.params c []) } := by
  simp only [List.mem_cons, List.not_mem_nil, or_false, not_or] at hc
  obtain ⟨hramwr, hslpout, hdispon, hinvon, hinvoff⟩ := hc
  simp [Panel.command, hramwr, hslpout, hdispon, hinvon, hinvoff, h]

end Sys2Proof.Machine
end

section
/-! The bring-up at the panel receiver (R167 to R170): the reset pulse leaves it ready for a byte, each table entry
leaves the one-byte registers `MADCTL` and `COLMOD` alone or sets its own, and the wake-up lights the panel. -/

namespace Sys2Proof.Machine

variable {p : Params} {v : Variant} {q : Panel} {op : SeqOp} {c d : Byte} {e : TableEntry}

/-! ## The reset pulse (R167) -/

@[simp] theorem Panel.endHigh_rstLevel (q : Panel) : q.endHigh.rstLevel = q.rstLevel := by
  unfold Panel.endHigh; split <;> rfl

@[simp] theorem Panel.endHigh_wakeFor (q : Panel) : q.endHigh.wakeFor = q.wakeFor := by
  unfold Panel.endHigh; split <;> rfl

@[simp] theorem Panel.endHigh_highFor (q : Panel) : q.endHigh.highFor = none := rfl

/-- Once the line is 1 and its wait is over, only the wait after `SLPOUT` can make a byte too early. -/
theorem Panel.tooEarly_of_released (hrst : q.rstLevel = .high) (hhigh : q.highFor = none) :
    q.tooEarly = shortOf 120 q.wakeFor := by
  rw [Panel.tooEarly, hrst, hhigh]
  rfl

theorem shortOf_map_add {m n : Nat} (t : Option Nat) (h : m ≤ n) : shortOf m (t.map (· + n)) = false := by
  cases t with
  | none => rfl
  | some k => exact decide_eq_false (show ¬ k + n < m by omega)

/-- After the reset pulse of `INITIALIZE` the line is 1, its wait is over, and the next byte is not too early. -/
theorem Panel.fold_resetPulse (q : Panel) :
    ∃ r, r = q.fold p v (tagged op [.rst 0#1, .delay 100#9, .rst 1#1, .delay 100#9]) ∧
      r.rstLevel = .high ∧ r.highFor = none ∧ r.tooEarly = false := by
  have hfold : q.fold p v (tagged op [.rst 0#1, .delay 100#9, .rst 1#1, .delay 100#9]) =
    ((q.resetLow.wait 100).resetHigh).wait 100 := rfl
  have hlow := Panel.wait_of_none q.resetLow_highFor 100
  have hhigh : (q.resetLow.wait 100).resetHigh = { q.resetLow.wait 100 with
      rstLevel := .high, lowFor := none, highFor := some 0, resetDue := true } :=
    Panel.resetHigh_long (n := q.lowFor.getD 0 + 100) (by rw [hlow]; rfl) (by omega)
  have hend := Panel.wait_long (q := (q.resetLow.wait 100).resetHigh) (n := 0) (ms := 100) (by rw [hhigh]) (by decide)
  rw [hfold, hend, hhigh, hlow]
  refine ⟨_, rfl, by simp, by simp, ?_⟩
  rw [Panel.tooEarly_of_released (by simp) (by simp)]
  simp only [Panel.endHigh_wakeFor, Option.map_map, Panel.resetLow_wakeFor, Function.comp_def, Nat.add_assoc]
  exact shortOf_map_add _ (by decide)

/-! ## One entry of the bring-up table -/

/-- An entry the receiver knows to change configuration only (R168, R172): its command is none the sequencer sends
itself (R114). -/
def ConfigEntry (p : Params) (v : Variant) (e : TableEntry) : Prop :=
  (e.cmd ≠ p.ops.slpout ∧ e.cmd ≠ p.ops.dispon ∧ e.cmd ≠ p.ops.caset ∧ e.cmd ≠ p.ops.raset ∧ e.cmd ≠ p.ops.ramwr) ∧
    (e.cmd ∈ configCmds p v ∨ e.cmd = p.ops.invon ∨ e.cmd = p.ops.invoff)

/-- `MADCTL` and `COLMOD`, by their command. -/
def Panel.register (p : Params) (q : Panel) (c : Byte) : Option Byte := if c = p.ops.madctl then q.madctl else q.colmod

/-- Between the bytes of an entry: its parameters are taken, or ignored after `INVON` and `INVOFF`. -/
def Panel.InEntry (q : Panel) (c : Byte) : Prop := q.mode = some .idle ∨ ∃ l, q.mode = some (.params c l)

/-- The command of an entry changes neither register. -/
theorem Panel.command_of_configEntry (h : ConfigEntry p v e) :
    (q.command p v e.cmd).InEntry e.cmd ∧ ∀ c, (q.command p v e.cmd).register p c = q.register p c := by
  obtain ⟨⟨hslpout, hdispon, -, -, hramwr⟩, hknown⟩ := h
  unfold Panel.command
  rw [if_neg hramwr, if_neg hslpout, if_neg hdispon]
  split_ifs with hinvon hinvoff hparams
  · exact ⟨.inl rfl, fun _ => rfl⟩
  · exact ⟨.inl rfl, fun _ => rfl⟩
  · exact ⟨.inr ⟨[], rfl⟩, fun _ => rfl⟩
  · have hunknown : e.cmd ∉ configCmds p v := fun h => hparams (.inr (.inr (List.contains_iff_mem.mpr h)))
    exact absurd hknown (by simp [hunknown, hinvon, hinvoff])

theorem Panel.register_madctl (q : Panel) : q.register p p.ops.madctl = q.madctl := if_pos rfl

theorem Panel.register_colmod (hd : p.ops.distinct = true) (q : Panel) : q.register p p.ops.colmod = q.colmod :=
  if_neg fun h => by simpa [h] using OpBytes.nodup_params hd

section
variable {l : List Byte} (hcaset : c ≠ p.ops.caset) (hraset : c ≠ p.ops.raset)
include hcaset hraset

/-- Outside the window's commands, parameters are taken without end (R169). -/
theorem Panel.param_mode : (q.param p v c l).mode = some (.params c l) := by
  unfold Panel.param
  rw [if_neg hcaset, if_neg hraset]
  split_ifs <;> rfl

theorem Panel.param_madctl_of_ne (h : c ≠ p.ops.madctl) : (q.param p v c l).madctl = q.madctl := by
  unfold Panel.param
  rw [if_neg hcaset, if_neg hraset, if_neg h]
  split_ifs <;> rfl

theorem Panel.param_colmod_of_ne (h : c ≠ p.ops.colmod) : (q.param p v c l).colmod = q.colmod := by
  unfold Panel.param
  rw [if_neg hcaset, if_neg hraset, if_neg h]
  split_ifs <;> rfl

end

/-- A parameter of another command leaves the register. -/
theorem Panel.register_param_of_ne (hd : p.ops.distinct = true) (hc : c = p.ops.madctl ∨ c = p.ops.colmod)
    (h : ConfigEntry p v e) (hne : e.cmd ≠ c) (l : List Byte) :
    (q.param p v e.cmd l).register p c = q.register p c := by
  obtain ⟨⟨-, -, hcaset, hraset, -⟩, -⟩ := h
  rcases hc with rfl | rfl
  · simpa only [Panel.register_madctl] using Panel.param_madctl_of_ne hcaset hraset hne
  · simpa only [Panel.register_colmod hd] using Panel.param_colmod_of_ne hcaset hraset hne

/-- The one parameter of a register's own command is its new value (R169). -/
theorem Panel.register_param_self (hd : p.ops.distinct = true) (hc : c = p.ops.madctl ∨ c = p.ops.colmod) (b : Byte) :
    (q.param p v c [b]).register p c = some b := by
  have hne := OpBytes.nodup_params hd
  simp only [List.nodup_cons, List.mem_cons, List.not_mem_nil, or_false, not_or] at hne
  obtain ⟨⟨-, hcm, hcc⟩, ⟨hrm, hrc⟩, hmc, -⟩ := hne
  rcases hc with rfl | rfl
  · simp [Panel.register_madctl, Panel.param, Ne.symm hcm, Ne.symm hrm]
  · simp [Panel.register_colmod hd, Panel.param, Ne.symm hcc, Ne.symm hrc, Ne.symm hmc]

/-! ## The bytes of an entry -/

/-- A data byte within an entry stays within it. -/
theorem Panel.byte_data_inEntry (h : ConfigEntry p v e) (hq : q.tooEarly = false) (hm : q.InEntry e.cmd) :
    (q.byte p v 1#1 d).InEntry e.cmd := by
  have ⟨⟨_, _, hcaset, hraset, _⟩, _⟩ := h
  rcases hm with hm | ⟨l, hm⟩
  · rw [Panel.byte_data_idle hq hm]
    exact .inl hm
  · rw [Panel.byte_data_params hq hm]
    exact .inr ⟨_, Panel.param_mode hcaset hraset⟩

section
variable (hd : p.ops.distinct = true) (hc : c = p.ops.madctl ∨ c = p.ops.colmod) (h : ConfigEntry p v e)
include hd hc h

/-- The data bytes of another command's entry leave the register. -/
theorem Panel.register_fold_data_of_ne (hne : e.cmd ≠ c) (ds : List Byte) (q : Panel) (hq : q.tooEarly = false)
    (hm : q.InEntry e.cmd) :
    (q.fold p v (tagged op (ds.map (.byte 1#1)))).register p c = q.register p c := by
  induction ds generalizing q with
  | nil => rfl
  | cons d ds ih =>
    have htrack : q.SameTracking (q.byte p v 1#1 d) := q.sameTracking_byte (by simp)
    have hstep : (q.byte p v 1#1 d).register p c = q.register p c := by
      rcases hm with hm | ⟨l, hm⟩
      · rw [Panel.byte_data_idle hq hm]
        rfl
      · rw [Panel.byte_data_params hq hm]
        exact Panel.register_param_of_ne hd hc h hne _
    exact (ih _ (htrack.tooEarly_eq.trans hq) (Panel.byte_data_inEntry h hq hm)).trans hstep

/-- An entry of another command leaves the register. -/
theorem Panel.register_fold_entry_of_ne (hne : e.cmd ≠ c) (hq : q.tooEarly = false) :
    (q.fold p v (tagged op (entryEvents e))).register p c = q.register p c := by
  have ⟨⟨hslpout, _⟩, _⟩ := h
  have htrack : q.SameTracking (q.byte p v 0#1 e.cmd) := q.sameTracking_byte fun _ => hslpout
  obtain ⟨hentry, hreg⟩ := Panel.command_of_configEntry (q := { q with resetDue := false }) h
  rw [← Panel.byte_command_of_ne hq hslpout] at hentry hreg
  exact (Panel.register_fold_data_of_ne hd hc h hne _ _ (htrack.tooEarly_eq.trans hq) hentry).trans (hreg c)

/-- The register's own entry sets it. -/
theorem Panel.register_fold_entry_self {b : Byte} (hcmd : e.cmd = c) (hb : e.params = [b]) (hq : q.tooEarly = false) :
    (q.fold p v (tagged op (entryEvents e))).register p c = some b := by
  have hfold : q.fold p v (tagged op (entryEvents e)) = (q.byte p v 0#1 c).byte p v 1#1 b := by
    simp [entryEvents, hcmd, hb]
  obtain ⟨⟨hslpout, -⟩, hknown⟩ := h
  rw [hcmd] at hslpout hknown
  have hnot : c ∉ [p.ops.ramwr, p.ops.slpout, p.ops.dispon, p.ops.invon, p.ops.invoff] :=
    OpBytes.not_mem_of_params hd (by rcases hc with rfl | rfl <;> simp)
  have hconfig : c ∈ configCmds p v := by
    simp only [List.mem_cons, List.not_mem_nil, or_false, not_or] at hnot
    tauto
  have hmode : (q.byte p v 0#1 c).mode = some (.params c []) := by
    rw [Panel.byte_command_of_ne hq hslpout, Panel.command_of_params hnot (.inr (.inr hconfig))]
  have htrack : q.SameTracking (q.byte p v 0#1 c) := q.sameTracking_byte fun _ => hslpout
  rw [hfold, Panel.byte_data_params (htrack.tooEarly_eq.trans hq) hmode]
  exact Panel.register_param_self hd hc b

end

/-! ## The whole table -/

/-- No byte of the table is a `SLPOUT`. -/
theorem Panel.sameTracking_fold_table {t : List TableEntry} (h : ∀ e ∈ t, ConfigEntry p v e) (q : Panel) :
    q.SameTracking (q.fold p v (tagged op (t.flatMap entryEvents))) := by
  refine Panel.sameTracking_fold op q fun ev hev => ?_
  obtain ⟨e, he, hev⟩ := List.mem_flatMap.mp hev
  have ⟨⟨hslpout, _⟩, _⟩ := h e he
  rcases List.mem_cons.mp hev with rfl | hev
  · exact ⟨_, _, rfl, fun _ => hslpout⟩
  · obtain ⟨d, -, rfl⟩ := List.mem_map.mp hev
    exact ⟨_, _, rfl, by simp⟩

/-- Once a register has a value out of `ok`, or an entry of the table still sets it, it ends with one: every entry of
its command sets one. -/
theorem Panel.register_fold_table (hd : p.ops.distinct = true) (hc : c = p.ops.madctl ∨ c = p.ops.colmod)
    {ok : List Byte} {t : List TableEntry} (h : ∀ e ∈ t, ConfigEntry p v e)
    (hok : ∀ e ∈ t, e.cmd = c → ∃ b ∈ ok, e.params = [b]) (q : Panel) (hq : q.tooEarly = false)
    (hset : (∃ b ∈ ok, q.register p c = some b) ∨ ∃ e ∈ t, e.cmd = c) :
    ∃ b ∈ ok, (q.fold p v (tagged op (t.flatMap entryEvents))).register p c = some b := by
  induction t generalizing q with
  | nil => simpa using hset
  | cons e t ih =>
    obtain ⟨he, ht⟩ := List.forall_mem_cons.mp h
    obtain ⟨hoke, hokt⟩ := List.forall_mem_cons.mp hok
    have htrack : q.SameTracking (q.fold p v (tagged op (entryEvents e))) := by
      simpa using Panel.sameTracking_fold_table (op := op) (t := [e]) (by simpa using he) q
    rw [List.flatMap_cons, tagged_append, Panel.fold_append]
    refine ih ht hokt _ (htrack.tooEarly_eq.trans hq) ?_
    by_cases hcmd : e.cmd = c
    · obtain ⟨b, hb, hparams⟩ := hoke hcmd
      exact .inl ⟨b, hb, Panel.register_fold_entry_self hd hc he hcmd hparams hq⟩
    · rw [Panel.register_fold_entry_of_ne hd hc he hcmd hq]
      simpa [hcmd] using hset

/-! ## The wake-up (R168, R170) -/

/-- The end of `INITIALIZE`, from a released panel: it is awake, on and lit, its registers are those it had, and the
wait after `SLPOUT` is over. -/
theorem Panel.fold_wake (hd : p.ops.distinct = true) (hq : q.tooEarly = false) (hrst : q.rstLevel = .high)
    (hhigh : q.highFor = none) :
    q.fold p v (tagged op [.byte 0#1 p.ops.slpout, .delay 120#9, .byte 0#1 p.ops.dispon, .bl 1#1]) =
      { q with
        resetDue := false, sleep := some .sleepOut, disp := some .on, mode := some .idle, blLevel := .high
        wakeFor := some 120, lowFor := q.lowFor.map (· + 120) } := by
  have hne := OpBytes.nodup_acting hd
  simp only [List.nodup_cons, List.mem_cons, List.not_mem_nil, or_false, not_or] at hne
  obtain ⟨⟨hsleep, hdisp⟩, hlit, -⟩ := hne
  have hslpout : q.byte p v 0#1 p.ops.slpout =
      { q with resetDue := false, sleep := some .sleepOut, mode := some .idle, wakeFor := some 0 } := by
    simp [Panel.byte_command hq, Panel.command, Panel.startWake, Ne.symm hsleep]
  have hwait : (q.byte p v 0#1 p.ops.slpout).wait 120 = { q with
      resetDue := false, sleep := some .sleepOut, mode := some .idle, wakeFor := some 120
      lowFor := q.lowFor.map (· + 120) } := by
    rw [Panel.wait_of_none (by rwa [hslpout]), hslpout]
    rfl
  have hready : ((q.byte p v 0#1 p.ops.slpout).wait 120).tooEarly = false := by
    rw [hwait]
    exact Panel.tooEarly_of_released hrst hhigh
  have hfold : q.fold p v (tagged op [.byte 0#1 p.ops.slpout, .delay 120#9, .byte 0#1 p.ops.dispon, .bl 1#1]) =
    { ((q.byte p v 0#1 p.ops.slpout).wait 120).byte p v 0#1 p.ops.dispon with blLevel := .high } := rfl
  rw [hfold, Panel.byte_command_of_ne hready (Ne.symm hlit), hwait]
  simp [Panel.command, Ne.symm hdisp, Ne.symm hlit]

/-- Settles O58: the pulse, the table and the wake-up, one after the other. -/
theorem bringUpLightsPanel : Obligations.BringUpLightsPanel := by
  intro p v q cfg hd hown hcolmod hmadctl hknown
  have hconfig : ∀ e ∈ cfg.initTable, ConfigEntry p v e := fun e he => ⟨(tNotOwned_iff ..).mp hown e he, hknown e he⟩
  obtain ⟨hhascolmod, hallcolmod⟩ := (tColmod_iff ..).mp hcolmod
  obtain ⟨hhasmadctl, hallmadctl⟩ := (tMadctl_iff ..).mp hmadctl
  obtain ⟨q₁, hq₁, hrst, hhigh, hready⟩ := Panel.fold_resetPulse (p := p) (v := v) (op := .initializeOp) q
  have htrack := Panel.sameTracking_fold_table (op := .initializeOp) hconfig q₁
  obtain ⟨c, hc, hc₂⟩ := Panel.register_fold_table (op := .initializeOp) hd (.inr rfl) hconfig hallcolmod q₁ hready
    (.inr hhascolmod)
  obtain ⟨m, hm, hm₂⟩ := Panel.register_fold_table (op := .initializeOp) hd (.inl rfl) hconfig hallmadctl q₁ hready
    (.inr hhasmadctl)
  have hready₂ := htrack.tooEarly_eq.trans hready
  obtain ⟨hrst₂, -, -, hhigh₂, -⟩ := htrack
  refine ⟨_, rfl, ?_⟩
  rw [initEvents, tagged_append, tagged_append, Panel.fold_append, Panel.fold_append, ← hq₁,
    Panel.fold_wake hd hready₂ (hrst₂.trans hrst) (hhigh₂.trans hhigh)]
  rw [Panel.register_colmod hd] at hc₂
  rw [Panel.register_madctl] at hm₂
  refine ⟨rfl, rfl, rfl, rfl, rfl, ?_, ⟨m, hm, hm₂⟩, c, hc, hc₂⟩
  exact Panel.tooEarly_of_released (hrst₂.trans hrst) (hhigh₂.trans hhigh)

end Sys2Proof.Machine
end

section
/-! The frame at the panel receiver (R168, R169, R171, R173): the window commands open the window and put the pointer
at its first pixel, each pixel's two bytes write its word and advance the pointer in row-major order, and so the stream
paints every pixel. -/

namespace Sys2Proof.Machine

variable {p : Params} {v : Variant} {q r : Panel} {op : SeqOp} {cfg : Cfg} {c : Byte}

/-! ## Opening the window (R136, R138, R139) -/

/-- The two end address bytes of a window are the address (R74). -/
theorem joinBytes_ofNat (m : Nat) : joinBytes (BitVec.ofNat 8 (m >>> 8)) (BitVec.ofNat 8 m) = BitVec.ofNat 16 m := by
  refine BitVec.eq_of_getLsbD_eq fun i hi => ?_
  rw [joinBytes, BitVec.getLsbD_append, BitVec.getLsbD_ofNat, BitVec.getLsbD_ofNat, BitVec.getLsbD_ofNat]
  by_cases h : i < 8
  · simp [h, hi]
  · simp [h, hi, show i - 8 < 8 by omega, show 8 + (i - 8) = i by omega]

theorem Panel.setColumns_of_length_ne {l : List Byte} (h : l.length ≠ 4) : q.setColumns l = q := by
  unfold Panel.setColumns
  split
  · exact absurd rfl h
  · rfl

theorem Panel.setRows_of_length_ne {l : List Byte} (h : l.length ≠ 4) : q.setRows l = q := by
  unfold Panel.setRows
  split
  · exact absurd rfl h
  · rfl

theorem Panel.param_caset (a b e f : Byte) : q.param p v p.ops.caset [a, b, e, f] =
    { q with xs := some (joinBytes a b), xe := some (joinBytes e f), mode := some .idle } := by
  rw [Panel.param, if_pos rfl]
  rfl

theorem Panel.param_raset (hd : p.ops.distinct = true) (a b e f : Byte) : q.param p v p.ops.raset [a, b, e, f] =
    { q with ys := some (joinBytes a b), ye := some (joinBytes e f), mode := some .idle } := by
  have hne : p.ops.raset ≠ p.ops.caset := fun h => by simpa [h] using OpBytes.nodup_params hd
  rw [Panel.param, if_neg hne, if_pos rfl]
  rfl

section
variable (hc : c = p.ops.caset ∨ c = p.ops.raset)
include hc

/-- Until the fourth, a parameter of a window command is only listed (R169). -/
theorem Panel.param_of_length_ne {l : List Byte} (h : l.length ≠ 4) :
    q.param p v c l = { q with mode := some (.params c l) } := by
  unfold Panel.param
  split_ifs with hcaset hraset
  · exact Panel.setColumns_of_length_ne h
  · exact Panel.setRows_of_length_ne h
  all_goals exact absurd hc (by simp [hcaset, hraset])

/-- A window command and its four bytes act as their list does. -/
theorem Panel.fold_windowCommand (hd : p.ops.distinct = true) (hq : q.tooEarly = false) (a b e f : Byte) :
    q.fold p v (tagged op (entryEvents ⟨c, [a, b, e, f]⟩)) =
      { q with resetDue := false }.param p v c [a, b, e, f] := by
  have hnot : c ∉ [p.ops.ramwr, p.ops.slpout, p.ops.dispon, p.ops.invon, p.ops.invoff] :=
    OpBytes.not_mem_of_params hd (by rcases hc with rfl | rfl <;> simp)
  have hcommand : q.byte p v 0#1 c = { q with resetDue := false, mode := some (.params c []) } := by
    rw [Panel.byte_command_of_ne hq fun h => hnot (by simp [h]),
      Panel.command_of_params hnot (hc.imp_right .inl)]
  have hdata : ∀ (l : List Byte) (d : Byte), (l ++ [d]).length ≠ 4 →
      { q with resetDue := false, mode := some (.params c l) }.byte p v 1#1 d =
        { q with resetDue := false, mode := some (.params c (l ++ [d])) } := fun l d hl => by
    rw [Panel.byte_data_params (l := l) (by exact hq) rfl, Panel.param_of_length_ne hc hl]
  simp only [entryEvents, List.map_cons, List.map_nil, tagged_cons, tagged_nil, Panel.fold_cons, Panel.fold_nil,
    Panel.event_byte, hcommand]
  rw [hdata [] a (by simp), hdata _ b (by simp), hdata _ e (by simp), Panel.byte_data_params (by exact hq) rfl]
  rfl

end

/-- The receiver with the whole panel as its window and the pointer at its first pixel. -/
def Panel.opened (cfg : Cfg) (q : Panel) : Panel :=
  { q with
    resetDue := false, overrun := false, mode := some (.stream none)
    xs := some 0#16, xe := some (BitVec.ofNat 16 (cfg.w - 1))
    ys := some 0#16, ye := some (BitVec.ofNat 16 (cfg.h - 1))
    px := some 0#16, py := some 0#16 }

/-- What `WRITE_FRAME` sends before its pixels opens the window. -/
theorem Panel.fold_window (hd : p.ops.distinct = true) (hq : q.tooEarly = false) :
    q.fold p v (tagged op (entryEvents ⟨p.ops.caset, window4 cfg.w⟩ ++ entryEvents ⟨p.ops.raset, window4 cfg.h⟩ ++
      [WireEvent.byte 0#1 p.ops.ramwr])) = q.opened cfg := by
  have hne : p.ops.ramwr ≠ p.ops.slpout := fun h => by simpa [h] using OpBytes.nodup_acting hd
  rw [tagged_append, tagged_append, Panel.fold_append, Panel.fold_append, window4, window4,
    Panel.fold_windowCommand (.inl rfl) hd hq, Panel.param_caset,
    Panel.fold_windowCommand (.inr rfl) hd (by exact hq), Panel.param_raset hd, joinBytes_ofNat, joinBytes_ofNat,
    tagged_cons, tagged_nil, Panel.fold_cons, Panel.fold_nil, Panel.event_byte,
    Panel.byte_command_of_ne (by exact hq) hne, Panel.command, if_pos rfl]
  rfl

/-- `WRITE_FRAME` sends the window commands and then the pixels. -/
theorem frameEvents_eq_append (o : OpBytes) (cfg : Cfg) (fb : List Byte) :
    frameEvents o cfg fb = entryEvents ⟨o.caset, window4 cfg.w⟩ ++ entryEvents ⟨o.raset, window4 cfg.h⟩ ++
      [WireEvent.byte 0#1 o.ramwr] ++ streamEvents fb := by
  simp [frameEvents, entryEvents]

/-! ## The write pointer in row-major order (R140, R171) -/

theorem toNat_ofNat_sixteen {m : Nat} (h : m < 65536) : (BitVec.ofNat 16 m).toNat = m := by
  rw [BitVec.toNat_ofNat, Nat.mod_eq_of_lt h]

/-- From pixel `n` of a window `w` columns wide the pointer advances to pixel `n + 1`. -/
theorem Panel.advance_pixel {w n : Nat} (hpos : 0 < w) (hw : w ≤ 65536) (hrow : n / w < 65536)
    (hxs : q.xs = some 0#16) (hxe : q.xe = some (BitVec.ofNat 16 (w - 1)))
    (hpx : q.px = some (BitVec.ofNat 16 (n % w))) (hpy : q.py = some (BitVec.ofNat 16 (n / w))) :
    q.pxAfter = some (BitVec.ofNat 16 ((n + 1) % w)) ∧ q.rowAfter = some ((n + 1) / w) := by
  have hlt : n % w < w := Nat.mod_lt n hpos
  have hdiv : n % w + w * (n / w) = n := Nat.mod_add_div n w
  have hx : (BitVec.ofNat 16 (n % w)).toNat = n % w := toNat_ofNat_sixteen (by omega)
  have he : (BitVec.ofNat 16 (w - 1)).toNat = w - 1 := toNat_ofNat_sixteen (by omega)
  have hy : (BitVec.ofNat 16 (n / w)).toNat = n / w := toNat_ofNat_sixteen hrow
  by_cases hend : n % w + 1 < w
  · obtain ⟨hcol, hadv⟩ := Panel.advance_column hpx hxe (by omega)
    obtain ⟨hq, hr⟩ := (Nat.div_mod_unique hpos).mpr ⟨show n % w + 1 + w * (n / w) = n + 1 by omega, hend⟩
    rw [hcol, hadv, hpy, hq, hr, BitVec.ofNat_add]
    exact ⟨rfl, congrArg some hy⟩
  · obtain ⟨hcol, hadv⟩ := Panel.advance_row hpx hxe (by omega)
    obtain ⟨hq, hr⟩ := (Nat.div_mod_unique hpos).mpr
      ⟨show 0 + w * (n / w + 1) = n + 1 by rw [Nat.mul_add]; omega, hpos⟩
    rw [hcol, hadv, hpy, hq, hr, hxs]
    exact ⟨rfl, congrArg some (congrArg (· + 1) hy)⟩

theorem rowWord_of_lt {y : Nat} (h : y < 65536) : rowWord y = some (BitVec.ofNat 16 y) := if_pos h

/-! ## One pixel (R171, R173) -/

/-- A 16-bit value is its two bytes, high byte first (R51). -/
theorem joinBytes_hiByte_loByte (w : Word16) : joinBytes (hiByte w) (loByte w) = w :=
  BitVec.extractLsb'_append_extractLsb'

/-- The two bytes of a pixel. -/
theorem Panel.byte_byte_stream (hq : q.tooEarly = false) (hm : q.mode = some (.stream none)) (hi lo : Byte) :
    (q.byte p v 1#1 hi).byte p v 1#1 lo = { q with resetDue := false }.pixel p v hi lo := by
  have hfirst : q.byte p v 1#1 hi = { q with resetDue := false, mode := some (.stream (some hi)) } := by
    simp only [Panel.byte_data hq, Panel.data, hm]
  rw [hfirst, Panel.byte_data (by exact hq)]
  rfl

/-- The keys of two pixels of a frame no wider than the key's column field are different. -/
theorem gramKey_pixel_inj {w i j : Nat} (hpos : 0 < w) (hw : w ≤ 65536)
    (h : gramKey (i % w) (i / w) = gramKey (j % w) (j / w)) : i = j := by
  have hi : i % w < w := Nat.mod_lt i hpos
  have hj : j % w < w := Nat.mod_lt j hpos
  unfold gramKey at h
  have hmod : i % w = j % w := by omega
  have hdiv : i / w = j / w := by omega
  rw [← Nat.mod_add_div i w, ← Nat.mod_add_div j w, hmod, hdiv]

/-- `MADCTL` is one the row-major order assumes, and `COLMOD` selects 16 bits per pixel (R171, R173). -/
def Panel.GoodFormat (p : Params) (v : Variant) (q : Panel) : Prop :=
  (∃ m ∈ p.madctlOk.get v, q.madctl = some m) ∧ ∃ c ∈ p.colmod16bpp, q.colmod = some c

theorem Panel.GoodFormat.of_sameConfig (hg : q.GoodFormat p v) (h : q.SameConfig r) : r.GoodFormat p v := by
  obtain ⟨-, -, hcolmod, hmadctl, -, -⟩ := h
  rwa [Panel.GoodFormat, hcolmod, hmadctl]

/-- In a good format a stream write makes the cell at the pointer the word sent. -/
theorem Panel.GoodFormat.gramAfter (hg : q.GoodFormat p v) {x y : Word16} (hpx : q.px = some x) (hpy : q.py = some y)
    (hover : q.overrun = false) (hi lo : Byte) :
    q.gramAfter p v hi lo = Cells.write q.gram (gramKey x.toNat y.toNat) (joinBytes hi lo) := by
  obtain ⟨⟨m, hmok, hm⟩, c, hcok, hc⟩ := hg
  simp [Panel.gramAfter, Panel.rowMajor, Panel.pixelWord, hm, hmok, hc, hcok, hpx, hpy, hover]

/-! ## The pixel stream (R140, R171) -/

/-- The receiver `r` after the first `n` pixels of a frame whose `i`th pixel packs to `word i`, the window having been
opened from `q`. -/
structure Panel.Painted (cfg : Cfg) (word : Nat → Word16) (q : Panel) (n : Nat) (r : Panel) : Prop where
  config : q.SameConfig r
  tracking : q.SameTracking r
  mode : r.mode = some (.stream none)
  xs : r.xs = some 0#16
  xe : r.xe = some (BitVec.ofNat 16 (cfg.w - 1))
  ys : r.ys = some 0#16
  ye : r.ye = some (BitVec.ofNat 16 (cfg.h - 1))
  painted : ∀ i < n, r.gramAt (i % cfg.w) (i / cfg.w) = some (word i)
  pointer : n < cfg.w * cfg.h →
    r.px = some (BitVec.ofNat 16 (n % cfg.w)) ∧ r.py = some (BitVec.ofNat 16 (n / cfg.w)) ∧ r.overrun = false

variable {word : Nat → Word16} {n : Nat}

theorem Panel.painted_opened (cfg : Cfg) (word : Nat → Word16) (q : Panel) : q.Painted cfg word 0 (q.opened cfg) where
  config := ⟨rfl, rfl, rfl, rfl, rfl, rfl⟩
  tracking := .refl q
  mode := rfl
  xs := rfl
  xe := rfl
  ys := rfl
  ye := rfl
  painted i hi := absurd hi i.not_lt_zero
  pointer _ := by simp [Panel.opened]

/-- The packed word of the `i`th pixel of a frame buffer (R44, R45, R155). -/
def frameWord (fb : List Byte) (i : Nat) : Word16 :=
  pack565 (fb[3 * i]?.getD 0#8) (fb[3 * i + 1]?.getD 0#8) (fb[3 * i + 2]?.getD 0#8)

theorem frameWord_cons (R G B : Byte) (fb : List Byte) (i : Nat) :
    frameWord (R :: G :: B :: fb) (i + 1) = frameWord fb i := rfl

section
variable (hlegal : cfg.legal) (hg : q.GoodFormat p v)
include hlegal hg

/-- The second byte of pixel `n` paints it and moves on to the next. -/
theorem Panel.Painted.pixel (h : q.Painted cfg word n r) (hn : n < cfg.w * cfg.h) {hi lo : Byte}
    (hword : word n = joinBytes hi lo) : q.Painted cfg word (n + 1) ({ r with resetDue := false }.pixel p v hi lo) := by
  obtain ⟨hwpos, hw, -, hh⟩ := hlegal
  obtain ⟨hpx, hpy, hover⟩ := h.pointer hn
  have hcol : n % cfg.w < cfg.w := Nat.mod_lt n hwpos
  have hrow : n / cfg.w < cfg.h := Nat.div_lt_of_lt_mul hn
  obtain ⟨hcoladv, hrowadv⟩ := Panel.advance_pixel hwpos hw (by omega) h.xs h.xe hpx hpy
  have hgram : ({ r with resetDue := false }.pixel p v hi lo).gram =
      Cells.write r.gram (gramKey (n % cfg.w) (n / cfg.w)) (word n) := by
    refine ((hg.of_sameConfig h.config).gramAfter hpx hpy hover hi lo).trans ?_
    rw [toNat_ofNat_sixteen (by omega), toNat_ofNat_sixteen (by omega), hword]
  refine { config := h.config, tracking := h.tracking, mode := rfl, xs := h.xs, xe := h.xe, ys := h.ys, ye := h.ye
           painted := fun i hi' => ?painted, pointer := fun hnext => ?pointer }
  case painted =>
    rw [Panel.gramAt, hgram, Cells.read_write]
    split_ifs with hkey
    · rw [gramKey_pixel_inj hwpos hw hkey]
    · have hne : i ≠ n := fun heq => hkey (by rw [heq])
      exact h.painted i (by omega)
  case pointer =>
    have hrow' : (n + 1) / cfg.w < cfg.h := Nat.div_lt_of_lt_mul hnext
    refine ⟨hcoladv, ?py, ?overrun⟩
    case py =>
      change Option.bind r.rowAfter rowWord = _
      rw [hrowadv, Option.bind_some, rowWord_of_lt (by omega)]
    case overrun =>
      change (r.overrun || r.pastEnd) = false
      rw [hover, Bool.false_or, Panel.pastEnd, hrowadv, h.ye]
      refine decide_eq_false ?_
      rw [toNat_ofNat_sixteen (by omega)]
      omega

/-- The pixels of a frame buffer, from pixel `n` on to the last one of the window. -/
theorem Panel.Painted.fold_stream (hq : q.tooEarly = false) : ∀ (fb : List Byte) (n : Nat) (r : Panel),
    (∀ i, frameWord fb i = word (n + i)) → n + fb.length / 3 = cfg.w * cfg.h → q.Painted cfg word n r →
      q.Painted cfg word (cfg.w * cfg.h) (r.fold p v (tagged op (streamEvents fb)))
  | R :: G :: B :: fb => by
    intro n r hword hlen h
    have hpack : word n = joinBytes (hiByte (pack565 R G B)) (loByte (pack565 R G B)) := by
      rw [joinBytes_hiByte_loByte]
      exact (hword 0).symm
    have hready := h.tracking.tooEarly_eq.trans hq
    have hlen' : (n + 1) + fb.length / 3 = cfg.w * cfg.h := by
      simp only [List.length_cons] at hlen
      omega
    have hpixel := h.pixel hlegal hg (by omega) hpack
    rw [← Panel.byte_byte_stream hready h.mode] at hpixel
    refine Panel.Painted.fold_stream hq fb (n + 1) _ (fun i => ?_) hlen' hpixel
    rw [Nat.add_assoc, Nat.add_comm 1 i, ← hword, frameWord_cons]
  | [] | [_] | [_, _] => by
    intro n r _ hlen h
    have hend : n = cfg.w * cfg.h := by simpa using hlen
    subst hend
    exact h

end

/-- After a whole frame every pixel is painted, from whatever receiver it opens its window in. -/
theorem Panel.painted_fold_frameEvents {fb : List Byte} (hd : p.ops.distinct = true) (hlegal : cfg.legal)
    (hlen : fb.length = 3 * cfg.w * cfg.h) (hq : q.tooEarly = false) (hg : q.GoodFormat p v) :
    q.Painted cfg (frameWord fb) (cfg.w * cfg.h) (q.fold p v (tagged op (frameEvents p.ops cfg fb))) := by
  rw [frameEvents_eq_append, tagged_append, Panel.fold_append, Panel.fold_window hd hq]
  exact (Panel.painted_opened cfg (frameWord fb) q).fold_stream hlegal hg hq fb 0 _ (fun i => by rw [Nat.zero_add])
    (by rw [Nat.zero_add, pixels_of_length_eq hlen])

/-- Settles O59: pixel `(x, y)` of the panel is pixel `y * W + x` of the frame buffer. -/
theorem framePaintsPanel : Obligations.FramePaintsPanel := by
  intro p v q cfg fb m c hd hlegal hlen hq hm hmok hc hcok
  have h := Panel.painted_fold_frameEvents (op := .writeFrame) hd hlegal hlen hq ⟨⟨m, hmok, hm⟩, c, hcok, hc⟩
  have ⟨_, hbl, _, _, _⟩ := h.tracking
  refine ⟨_, rfl, h.config, hbl, h.xs, h.ys, h.xe, h.ye, h.mode, fun x y R G B hx hy hR hG hB => ?_⟩
  obtain ⟨hdiv, hmod⟩ : (y * cfg.w + x) / cfg.w = y ∧ (y * cfg.w + x) % cfg.w = x :=
    (Nat.div_mod_unique (by omega)).mpr ⟨by rw [Nat.add_comm, Nat.mul_comm], hx⟩
  have hlt : y * cfg.w + x < cfg.w * cfg.h := by
    rw [Nat.mul_comm cfg.w]
    exact (Nat.div_lt_iff_lt_mul (by omega)).mp (by rwa [hdiv])
  have hpainted := h.painted _ hlt
  rwa [hdiv, hmod, frameWord, hR, hG, hB] at hpainted

end Sys2Proof.Machine
end

section
/-! The contract faults of the host's side (60_exceptions.md): `BUSY_ISSUE` (R189). -/

namespace Sys2Proof.Machine

/-- Settles O27: each host operation makes the checks of R184 before its own, and the fault is the block's first. -/
theorem busyIssueFaults : Obligations.BusyIssueFaults := by
  intro s b i hb hf hop hi
  rw [exec_hostOp_of_busy hi hb hf hop, takeContractFault_of_no_fault _ _ hf]
  rfl

end Sys2Proof.Machine
end

section
/-! The block a successful `CONSTRUCT` leaves, the unit's reset (R40, R99, R198). -/

namespace Sys2Proof.Machine

/-- `CONSTRUCT` of a legal configuration makes the acquisitions where no block exists and none has failed. -/
theorem exec_construct_of_configOk {s : State} {v : Variant} {w h : Nat} {lines : Lines} {bus : Bus}
    (hb : s.block = none) (ha : s.acquisitionFailed = false) (hc : configOk s.params v w h = true) :
    exec (.construct v w h lines bus) s = .next (construct v w h lines bus s) := by
  simp [exec, execConstruct, hb, ha, constructChecked, hc]

/-- The state once every acquisition has succeeded: the block of R40, its latches freely drawn, and `OK` returned. -/
theorem construct_of_acquire {s t : State} (hacq : acquire 4 s = (true, t)) (v : Variant) (w h : Nat) (lines : Lines)
    (bus : Bus) :
    construct v w h lines bus s =
      ((t.setBlock (Block.fresh ⟨v, w, h, tableOf (s.params.initTable.get v), lines, bus⟩ (Config.freePixIn t.drawn)
        (Config.freePixOut t.drawn) (Config.freeByteOut t.drawn))).setRet
          (.status .ok 0)).countDraw.setAcquisitionFailed false := by
  rw [construct, hacq]

/-- Nothing is known of the panel before the first event (R40, R164). -/
theorem State.panel_allUnknown_of_trace_nil {s : State} {b : Block} (hb : s.block = some b) (ht : b.trace = []) :
    s.panel.AllUnknown := by
  have hinitial : s.panel = Panel.initial := by simp only [State.panel, hb, Block.panel, ht, Panel.fold, List.foldl_nil]
  rw [hinitial]
  exact ⟨rfl, rfl, rfl, rfl, rfl, rfl, rfl, rfl, rfl, rfl, rfl, rfl, rfl, rfl⟩

/-- Settles O16: the checks pass, the four acquisitions succeed, and they change neither the parameters nor the host's
requests. -/
theorem constructGivesFreshBlock : Obligations.ConstructGivesFreshBlock := by
  intro s v w h lines bus rest hb ha hw hw' hh hh' hcols hrows htable hans
  have hsize : sizeOk s.params v w h = true := (sizeOk_iff ..).mpr ⟨hw, hw', hh, hh', hcols, hrows⟩
  have hconfig : configOk s.params v w h = true := by rw [configOk, hsize, htable, Bool.and_self]
  obtain ⟨hok, hrest⟩ := acquire_all_ok (n := 4) hans
  obtain ⟨-, hparams, hhost, -⟩ := acquire_frame 4 s
  have hconstruct := construct_of_acquire (Prod.ext hok rfl) v w h lines bus
  have hblock := congrArg State.block hconstruct
  refine ⟨_, _, _, _, exec_construct_of_configOk hb ha hconfig, State.panel_allUnknown_of_trace_nil hblock rfl, hblock,
    ?_⟩
  rw [hconstruct]
  exact ⟨rfl, rfl, hrest, hhost, hparams⟩

end Sys2Proof.Machine
end

section
/-! The decoder and the encoder against each other (30_encoding.md): each undoes the other (R82), and the words with no
meaning are those of R69. -/

namespace Sys2Proof

/-! ## The named commands (R77, R82) -/

theorem map_fst_namedCmds (o : OpBytes) : (namedCmds o).map Prod.fst = o.toList := rfl

/-- A named command is encoded as the whole word of its row, and is well formed. -/
theorem encode_of_mem_namedCmds {o : OpBytes} {row : Byte × Instr} (h : row ∈ namedCmds o) :
    encode o row.2 = .micro (wordCmd row.1) ∧ row.2.wf o = true := by
  simp only [namedCmds, List.mem_cons, List.not_mem_nil, or_false] at h
  rcases h with h | h | h | h | h | h | h | h | h | h | h | h | h | h | h <;> subst h <;> exact ⟨rfl, rfl⟩

/-- Where the command bytes are distinct, a row is the only one of its byte. -/
theorem decodeCmd_of_mem_namedCmds {o : OpBytes} (hd : o.distinct = true) {row : Byte × Instr}
    (h : row ∈ namedCmds o) : decodeCmd o row.1 = row.2 := by
  have hinj := List.inj_on_of_nodup_map (map_fst_namedCmds o ▸ OpBytes.nodup_of_distinct hd)
  unfold decodeCmd
  split
  case h_1 row' hfind =>
    have hbyte : row'.1 = row.1 := by simpa using List.find?_some hfind
    rw [hinj (List.mem_of_find?_eq_some hfind) h hbyte]
  case h_2 hnone => simpa using List.find?_eq_none.mp hnone row h

/-- A byte that is no named command's is a `WRITE_CMD`. -/
theorem decodeCmd_of_not_mem {o : OpBytes} {b : Byte} (h : b ∉ o.toList) : decodeCmd o b = .writeCmd b := by
  rw [← map_fst_namedCmds] at h
  have hnone : (namedCmds o).find? (fun row => row.1 == b) = none :=
    List.find?_eq_none.mpr fun row hrow hbyte => h (List.mem_map.mpr ⟨row, hrow, by simpa using hbyte⟩)
  rw [decodeCmd, hnone]

/-- What a command byte decodes to is encoded as that byte's word, and is well formed. -/
theorem encode_decodeCmd (o : OpBytes) (b : Byte) :
    encode o (decodeCmd o b) = .micro (wordCmd b) ∧ (decodeCmd o b).wf o = true := by
  unfold decodeCmd
  split
  case h_1 row hfind =>
    have hbyte : row.1 = b := by simpa using List.find?_some hfind
    exact hbyte ▸ encode_of_mem_namedCmds (List.mem_of_find?_eq_some hfind)
  case h_2 hnone =>
    have hunnamed : b ∉ o.toList := by
      rw [← map_fst_namedCmds]
      intro hmem
      obtain ⟨row, hrow, hbyte⟩ := List.mem_map.mp hmem
      exact List.find?_eq_none.mp hnone row hrow (by simpa using hbyte)
    exact ⟨rfl, by simpa [Instr.wf] using hunnamed⟩

/-! ## Decoding an encoding -/

theorem bytesOf_natsOf (fb : List Byte) : bytesOf (natsOf fb) = some fb := by
  induction fb with
  | nil => rfl
  | cons b fb ih => rw [natsOf] at ih ⊢; simp [bytesOf, ih, Machine.byteOf_toNat]

/-- A named command decodes from its own word. -/
theorem decode_encode_of_named {o : OpBytes} (hd : o.distinct = true) {i : Instr}
    (h : i ∈ (namedCmds o).map Prod.snd) : decode o (encode o i) = .ok i := by
  obtain ⟨row, hrow, rfl⟩ := List.mem_map.mp h
  rw [(encode_of_mem_namedCmds hrow).1, decode, decodeMicro_wordCmd, decodeCmd_of_mem_namedCmds hd hrow]

/-- Settles O1: a host operation decodes by its operands' own decoder, a micro-operation by the fields of its word, and
a command byte by the row that is its own. -/
theorem decodeEncodeAgree : Obligations.DecodeEncodeAgree := by
  intro o i hd hwf
  cases i with
  | construct v w h lines bus => rfl
  | initializeOp => rfl
  | writeFrame fb =>
    exact Machine.orOutsideType_eq_ok.mpr (congrArg (Option.map Instr.writeFrame) (bytesOf_natsOf fb))
  | pack565 r g b => exact Machine.orOutsideType_eq_ok.mpr (Machine.decodePack565_channels r g b)
  | writeCmd b =>
    have hunnamed : b ∉ o.toList := by simpa [Instr.wf] using hwf
    rw [encode, decode, decodeMicro_wordCmd, decodeCmd_of_not_mem hunnamed]
  | writeData b => exact decodeMicro_wordDat o b
  | setRst l => exact decodeMicro_wordRst o l
  | setBl l => exact decodeMicro_wordBl o l
  | delay ms => exact decodeMicro_wordDelay o ms
  | _ => exact decode_encode_of_named hd (by simp [namedCmds])

/-! ## A word as its fields (R67) -/

theorem kind_append_dc_append_byte (u : MicroWord) : microKind u ++ microDc u ++ microByte u = u := by
  rw [microKind, microDc,
    BitVec.extractLsb'_append_extractLsb'_eq_extractLsb' (start₂ := 9) (start₁ := 8) (len₁ := 1) rfl]
  exact BitVec.extractLsb'_append_extractLsb'

theorem kind_append_zero_append_level (u : MicroWord) : microKind u ++ microZero u ++ microLevel u = u := by
  rw [microKind, microZero,
    BitVec.extractLsb'_append_extractLsb'_eq_extractLsb' (start₂ := 9) (start₁ := 1) (len₁ := 8) rfl]
  exact BitVec.extractLsb'_append_extractLsb'

theorem kind_append_ms (u : MicroWord) : microKind u ++ microMs u = u := BitVec.extractLsb'_append_extractLsb'

/-- Settles O2: a word that decodes is put together again from the fields its instruction was read from. -/
theorem encodeDecodedWord : Obligations.EncodeDecodedWord := by
  intro o u i h
  have hbyte := kind_append_dc_append_byte u
  have hlevel := kind_append_zero_append_level u
  have hms := kind_append_ms u
  unfold decodeMicro at h
  split_ifs at h with hkind hdc hkind hzero hkind hzero hkind <;> cases h
  · obtain ⟨hencode, hwf⟩ := encode_decodeCmd o (microByte u)
    rw [hkind, hdc] at hbyte
    exact ⟨hencode.trans (congrArg RawInstr.micro hbyte), hwf⟩
  · rw [hkind, (BitVec.eq_zero_or_eq_one _).resolve_left hdc] at hbyte
    exact ⟨congrArg RawInstr.micro hbyte, rfl⟩
  · rw [hkind, hzero] at hlevel
    exact ⟨congrArg RawInstr.micro hlevel, rfl⟩
  · rw [hkind, hzero] at hlevel
    exact ⟨congrArg RawInstr.micro hlevel, rfl⟩
  · rw [hkind] at hms
    exact ⟨congrArg RawInstr.micro hms, rfl⟩

theorem microKind_eq_iff (u : MicroWord) (k : BitVec 3) : microKind u = k ↔ u.toNat / 512 = k.toNat := by
  have hlt := u.isLt
  rw [← BitVec.toNat_inj, microKind, BitVec.extractLsb'_toNat, Nat.shiftRight_eq_div_pow]
  omega

theorem microZero_eq_iff (u : MicroWord) (z : BitVec 8) : microZero u = z ↔ u.toNat / 2 % 256 = z.toNat := by
  rw [← BitVec.toNat_inj, microZero, BitVec.extractLsb'_toNat, Nat.shiftRight_eq_div_pow]

/-- Settles O3: the decoder's tests on the fields as divisions of the word's number. -/
theorem illegalMicroWords : Obligations.IllegalMicroWords := by
  intro o u
  have hlt := u.isLt
  unfold decodeMicro
  simp only [microKind_eq_iff, microZero_eq_iff, BitVec.toNat_ofNat, Nat.reducePow, Nat.reduceMod]
  split_ifs
  all_goals simp
  all_goals omega

/-- Settles O4: each word is one of the forms the encoder writes. -/
theorem specWordsDecode : Obligations.SpecWordsDecode := by
  unfold Obligations.SpecWordsDecode
  decide

end Sys2Proof
end

section
/-! What an instruction and a step can do, said once: an instruction other than `CONSTRUCT` that answers a next state
had one of six effects on the block it found, and a step had one of six of its own. -/

namespace Sys2Proof.Machine

open Host (Outcome)

/-! ## The micro-operations (R83) -/

/-- The event a micro-operation emits when it succeeds (R86 to R93); none for a host operation. -/
def eventBy (o : OpBytes) : Instr → Option WireEvent
  | .setRst l => some (.rst l)
  | .setBl l => some (.bl l)
  | .delay ms => some (.delay ms)
  | i => (byteSentBy o i).map fun sent => .byte sent.1 sent.2

theorem eventBy_of_byteSentBy {o : OpBytes} {i : Instr} {dc : Bit} {v : Byte} (h : byteSentBy o i = some (dc, v)) :
    eventBy o i = some (.byte dc v) := by
  cases i <;> cases h <;> rfl

/-- A micro-operation that sends no byte drives its line, emits its event and advances (R89, R90, R93). -/
theorem exec_eq_microOp_of_event {s : State} {i : Instr} {e : WireEvent} (he : eventBy s.params.ops i = some e)
    (hsilent : e.isByte = false) :
    exec i s = microOp s fun s b => (s.afterEvent e).setBlock ((b.drive e).emit e).advance := by
  cases i with
  | setRst l => cases he; rfl
  | setBl l => cases he; rfl
  | delay ms => cases he; rfl
  | _ => cases he <;> cases hsilent

/-! ## Where an instruction is refused or stopped (R33, R40, R83, R184) -/

/-- A micro-operation makes the check of R83 first. -/
theorem exec_eq_microOp {i : Instr} (hi : isHostOp i = false) (s : State) : ∃ f, exec i s = microOp s f := by
  cases i with
  | construct v w h lines bus => cases hi
  | initializeOp => cases hi
  | writeFrame fb => cases hi
  | pack565 r g b => cases hi
  | setRst l => exact ⟨_, exec_eq_microOp_of_event (e := .rst l) rfl rfl⟩
  | setBl l => exact ⟨_, exec_eq_microOp_of_event (e := .bl l) rfl rfl⟩
  | delay ms => exact ⟨_, exec_eq_microOp_of_event (e := .delay ms) rfl rfl⟩
  | _ => exact ⟨_, exec_eq_sendByte rfl⟩

/-- Every instruction is a micro-operation, or a host operation that makes the checks of R184 and has no stop of its
own, or a `CONSTRUCT`. -/
theorem exec_shape (i : Instr) (s : State) :
    (∃ f, exec i s = microOp s f) ∨ (∃ f, exec i s = hostOp s f ∧ ∀ b r, f s b ≠ .fault r) ∨
      ∃ v w h lines bus, i = .construct v w h lines bus := by
  cases i with
  | construct v w h lines bus => exact .inr (.inr ⟨v, w, h, lines, bus, rfl⟩)
  | initializeOp =>
    refine .inr (.inl ⟨_, rfl, fun b r h => ?_⟩)
    split at h <;> cases h
  | writeFrame fb =>
    refine .inr (.inl ⟨_, rfl, fun b r h => ?_⟩)
    split at h
    · split at h <;> cases h
    · cases h
  | pack565 r g b =>
    refine .inr (.inl ⟨_, rfl, fun b r h => ?_⟩)
    cases h
  | _ => exact .inl (exec_eq_microOp rfl s)

/-- Settles O29: a micro-operation, a host operation of the block and a second `CONSTRUCT` each look for the block. -/
theorem noBlockNoOperation : Obligations.NoBlockNoOperation := by
  intro s i hb hi
  rcases exec_shape i s with ⟨f, hexec⟩ | ⟨f, hexec, -⟩ | ⟨v, w, h, lines, bus, rfl⟩
  · rw [hexec, microOp, hb]
  · rw [hexec, hostOp, hb]
  · have hfailed : s.acquisitionFailed = true := hi.resolve_left (by simp [isConstruct])
    simp [exec, execConstruct, hb, hfailed]

/-- Every instruction stops on a block with a contract fault (R33, R184). -/
theorem exec_of_faulted {s : State} {b : Block} (hb : s.block = some b) (hf : b.faults ≠ 0#5) (i : Instr) :
    exec i s = .fault (.contractFaulted b.faults) := by
  rcases exec_shape i s with ⟨f, hexec⟩ | ⟨f, hexec, -⟩ | ⟨v, w, h, lines, bus, rfl⟩
  · simp [hexec, microOp, hb, hf]
  · rw [hexec, hostOp_some hb, issueOn_faulted hf]
  · rw [exec, execConstruct, hb]
    exact issueOn_faulted hf

theorem issueOn_fault {s : State} {b : Block} {f : State → Block → Outcome State Fault Refusal} {r : Fault}
    (hf : ∀ b r, f s b ≠ .fault r) (h : issueOn s b f = .fault r) : ∃ m, r = .contractFaulted m := by
  unfold issueOn at h
  split_ifs at h
  · exact absurd h (hf b r)
  · cases h
    exact ⟨_, rfl⟩

theorem constructChecked_ne_fault (v : Variant) (w h : Nat) (lines : Lines) (bus : Bus) (s : State) (r : Fault) :
    constructChecked v w h lines bus s ≠ .fault r := by
  unfold constructChecked
  split <;> nofun

/-- An instruction stops for no other reason than a contract fault of the block. -/
theorem exec_fault {s : State} {i : Instr} {r : Fault} (h : exec i s = .fault r) : ∃ m, r = .contractFaulted m := by
  rcases exec_shape i s with ⟨f, hexec⟩ | ⟨f, hexec, hf⟩ | ⟨v, w, h', lines, bus, rfl⟩
  · rw [hexec, microOp.eq_def] at h
    split at h
    · cases h
    · split_ifs at h
      cases h
      exact ⟨_, rfl⟩
  · rw [hexec, hostOp.eq_def] at h
    split at h
    · cases h
    · exact issueOn_fault hf h
  · rw [exec, execConstruct.eq_def] at h
    split at h
    · split at h
      · cases h
      · exact absurd h (constructChecked_ne_fault v w h' lines bus s r)
    · exact issueOn_fault (fun _ => constructChecked_ne_fault v w h' lines bus s) h

/-- Settles O28: the step and each instruction look at `FAULT` before anything else of the block. -/
theorem faultedBlockTakesNoStep : Obligations.FaultedBlockTakesNoStep :=
  fun _ _ hb hf => ⟨step_of_faulted hb hf, exec_of_faulted hb hf⟩

/-- Settles O15: the check of R83 fails. -/
theorem microNeedsOperationInProgress : Obligations.MicroNeedsOperationInProgress := by
  intro s b i hb hf hidle hi
  have hdisabled : ¬ b.microEnabled = true := by
    rw [Block.microEnabled_iff]
    rintro ⟨hop, hk⟩
    rcases hidle with hnone | hend
    · exact hop hnone
    · exact absurd hk (Nat.not_lt.mpr hend)
  obtain ⟨f, hexec⟩ := exec_eq_microOp hi s
  simp [hexec, microOp, hb, hf, hdisabled]

/-! ## The effects of an instruction -/

/-- What an instruction other than `CONSTRUCT` can do in a state whose block it is run on. -/
inductive ExecEffect (s : State) (b : Block) (i : Instr) : State → Prop
  /-- A host operation takes a contract fault (R103, R133, R134, R189). -/
  | faults (f : ContractFault) (hf : f ≠ .illegalMicroop) (hi : isHostOp i = true) :
      ExecEffect s b i (takeContractFault f s b)
  /-- `INITIALIZE` starts the sequencer (R102). -/
  | bringsUp (hi : i = .initializeOp) (hop : b.seq.op = .none) (hphase : b.phase = .uninit ∨ b.phase = .initFailed) :
      ExecEffect s b i (s.setBlock (b.setSeq ⟨.initializeOp, initProg s.params.ops b.cfg, 0⟩))
  /-- `WRITE_FRAME` starts the sequencer, the frame buffer lent (R132). -/
  | streams (fb : List Byte) (hi : i = .writeFrame fb) (hop : b.seq.op = .none) (hphase : b.phase = .active)
      (hlen : fb.length = frameBytes b.cfg) :
      ExecEffect s b i (s.setBlock (((b.setSeq ⟨.writeFrame, frameProg s.params.ops b.cfg fb, 0⟩).setFrame
        fb).freePixLatches s.drawn)).countDraw
  /-- `PACK565` returns a word (R155). -/
  | packs (w : Word16) (hi : isHostOp i = true) (hop : b.seq.op = .none) :
      ExecEffect s b i ((s.setBlock (b.setPixOut w)).setRet (.word w))
  /-- A micro-operation succeeds (R86 to R93). -/
  | emits (e : WireEvent) (he : eventBy s.params.ops i = some e) (hm : b.microEnabled = true) :
      ExecEffect s b i ((s.afterEvent e).setBlock ((b.drive e).emit e).advance)
  /-- A byte is lost and the operation aborts (R85, R95). -/
  | aborts (dc : Bit) (v : Byte) (hi : byteSentBy s.params.ops i = some (dc, v)) (hm : b.microEnabled = true) :
      ExecEffect s b i (abort s.afterAnswer ((b.present dc v).emit (.lost dc v)))

section
variable {s t : State} {i : Instr}

/-- An instruction that sends a byte had it sent or lost. -/
theorem execEffect_of_byteSentBy {dc : Bit} {v : Byte} (hi : byteSentBy s.params.ops i = some (dc, v))
    (h : exec i s = .next t) : ∃ b, s.block = some b ∧ b.faults = 0#5 ∧ ExecEffect s b i t := by
  rw [exec_eq_sendByte hi] at h
  obtain ⟨b, hb, hf, hm, rfl⟩ := microOp_next h
  refine ⟨b, hb, hf, ?_⟩
  rcases sendByte_cases dc v s b with ⟨-, hsent⟩ | ⟨-, hlost⟩
  · exact hsent ▸ .emits (.byte dc v) (eventBy_of_byteSentBy hi) hm
  · exact hlost ▸ .aborts dc v hi hm

/-- A micro-operation that sends no byte succeeded. -/
theorem execEffect_of_event {e : WireEvent} (he : eventBy s.params.ops i = some e) (hsilent : e.isByte = false)
    (h : exec i s = .next t) : ∃ b, s.block = some b ∧ b.faults = 0#5 ∧ ExecEffect s b i t := by
  rw [exec_eq_microOp_of_event he hsilent] at h
  obtain ⟨b, hb, hf, hm, rfl⟩ := microOp_next h
  exact ⟨b, hb, hf, .emits e he hm⟩

/-- A host operation of a block found it busy, or idle and ran. -/
theorem execEffect_of_hostOp {f : State → Block → Outcome State Fault Refusal} (h : hostOp s f = .next t)
    (hi : isHostOp i = true)
    (hrun : ∀ b, b.seq.op = .none → f s b = .next t → ExecEffect s b i t) :
    ∃ b, s.block = some b ∧ b.faults = 0#5 ∧ ExecEffect s b i t := by
  obtain ⟨b, hb, hissue⟩ := hostOp_next h
  obtain ⟨hf, ⟨-, rfl⟩ | ⟨hidle, hran⟩⟩ := issueOn_next hissue
  · exact ⟨b, hb, hf, .faults .busyIssue (by decide) hi⟩
  · exact ⟨b, hb, hf, hrun b (by simpa [Block.busy] using hidle) hran⟩

/-- An instruction other than `CONSTRUCT` that answers a next state found a block without a fault, and had one of the
effects on it. -/
theorem exec_next (hc : isConstruct i = false) (h : exec i s = .next t) :
    ∃ b, s.block = some b ∧ b.faults = 0#5 ∧ ExecEffect s b i t := by
  cases i with
  | construct v w h lines bus => cases hc
  | initializeOp =>
    refine execEffect_of_hostOp h rfl fun b hop hran => ?_
    split at hran <;> cases hran
    · exact .bringsUp rfl hop ‹_›
    · exact .faults .initPhase (by decide) rfl
  | writeFrame fb =>
    refine execEffect_of_hostOp h rfl fun b hop hran => ?_
    split at hran
    · split at hran <;> cases hran
      · exact .streams fb rfl hop ‹_› ‹_›
      · exact .faults .frameSize (by decide) rfl
    · cases hran
      exact .faults .framePhase (by decide) rfl
  | pack565 r g b =>
    refine execEffect_of_hostOp h rfl fun b hop hran => ?_
    cases hran
    exact .packs _ rfl hop
  | setRst l => exact execEffect_of_event (e := .rst l) rfl rfl h
  | setBl l => exact execEffect_of_event (e := .bl l) rfl rfl h
  | delay ms => exact execEffect_of_event (e := .delay ms) rfl rfl h
  | _ => exact execEffect_of_byteSentBy rfl h

end

end Sys2Proof.Machine
end

section
/-! What a step can do, said once. -/

namespace Sys2Proof.Machine

variable {s t : State} {b : Block} {i : Instr}

/-- A `CONSTRUCT` that answers a next state found the block busy, or made the acquisitions of a legal configuration. -/
theorem exec_construct_next {v : Variant} {w h : Nat} {lines : Lines} {bus : Bus}
    (hexec : exec (.construct v w h lines bus) s = .next t) :
    (∃ b, s.block = some b ∧ b.faults = 0#5 ∧ t = takeContractFault .busyIssue s b) ∨
      (configOk s.params v w h = true ∧ (s.block = none ∨ ∃ b, HostReady s b) ∧ t = construct v w h lines bus s) := by
  have hchecked : constructChecked v w h lines bus s = .next t →
      configOk s.params v w h = true ∧ t = construct v w h lines bus s := fun hran => by
    unfold constructChecked at hran
    split at hran <;> cases hran
    exact ⟨‹_›, rfl⟩
  rw [exec, execConstruct] at hexec
  split at hexec
  case h_1 hb =>
    split at hexec
    · cases hexec
    · obtain ⟨hconfig, ht⟩ := hchecked hexec
      exact .inr ⟨hconfig, .inl hb, ht⟩
  case h_2 b hb =>
    obtain ⟨hf, ⟨-, ht⟩ | ⟨hidle, hran⟩⟩ := issueOn_next hexec
    · exact .inl ⟨b, hb, hf, ht⟩
    · obtain ⟨hconfig, ht⟩ := hchecked hran
      exact .inr ⟨hconfig, .inr ⟨b, hb, hf, by simpa [Block.busy] using hidle⟩, ht⟩

/-- A block a construction leaves is a new one (R40). -/
theorem eq_fresh_of_construct {v : Variant} {w h : Nat} {lines : Lines} {bus : Bus} {b' : Block}
    (hb' : (construct v w h lines bus s).block = some b') :
    ∃ pixIn pixOut byteOut,
      b' = Block.fresh ⟨v, w, h, tableOf (s.params.initTable.get v), lines, bus⟩ pixIn pixOut byteOut := by
  rcases construct_cases v w h lines bus s with ⟨-, pixIn, pixOut, byteOut, hblock, -⟩ | ⟨-, hblock, -⟩
  · exact ⟨pixIn, pixOut, byteOut, Option.some_inj.mp (hb'.symm.trans hblock)⟩
  · cases hb'.symm.trans hblock

/-- What a step can do. -/
inductive StepEffect (s : State) : State → Prop
  /-- The host has nothing left to ask (log entry 9). -/
  | waits (hf : ∀ b, s.block = some b → b.faults = 0#5) : StepEffect s s
  /-- The host's next request constructs a block, or fails to (R99, R100). -/
  | constructs (v : Variant) (w h : Nat) (lines : Lines) (bus : Bus) (rest : List HostRequest)
      (hconfig : configOk s.params v w h = true) (hturn : s.block = none ∨ ∃ b, HostReady s b) :
      StepEffect s (construct v w h lines bus (s.setHost rest))
  /-- The host's next request has an effect on the block. -/
  | issues (b : Block) (i : Instr) (rest : List HostRequest) (t : State) (hb : s.block = some b) (hf : b.faults = 0#5)
      (hi : isHostOp i = true) (heffect : ExecEffect (s.setHost rest) b i t) : StepEffect s t
  /-- The word at `SEQ.K` has an effect on the block, whose packer has done its work (R83). -/
  | runs (b : Block) (u : MicroWord) (i : Instr) (t : State) (hb : s.block = some b) (hf : b.faults = 0#5)
      (hop : b.seq.op ≠ .none) (hu : b.seq.prog[b.seq.k]? = some u) (hi : decodeMicro s.params.ops u = .ok i)
      (heffect : ExecEffect (s.tickHost.setBlock b.pack) b.pack i t) : StepEffect s t
  /-- The word at `SEQ.K` is illegal (R97). -/
  | meetsIllegal (b : Block) (u : MicroWord) (e : DecodeError) (hb : s.block = some b) (hf : b.faults = 0#5)
      (hop : b.seq.op ≠ .none) (hu : b.seq.prog[b.seq.k]? = some u) (he : decodeMicro s.params.ops u = .error e) :
      StepEffect s (takeContractFault .illegalMicroop s.tickHost b)
  /-- The list is at its end (R94). -/
  | completes (b : Block) (hb : s.block = some b) (hf : b.faults = 0#5) (hop : b.seq.op ≠ .none)
      (hk : b.seq.k = b.seq.prog.length) : StepEffect s (complete s.tickHost b)

/-- What a micro-operation word decodes to is no host operation. -/
theorem isHostOp_of_decodeMicro {o : OpBytes} {u : MicroWord} (h : decodeMicro o u = .ok i) : isHostOp i = false := by
  have hencode := (encodeDecodedWord o u i h).1
  cases i with
  | construct v w h lines bus => cases hencode
  | initializeOp => cases hencode
  | writeFrame fb => cases hencode
  | pack565 r g b => cases hencode
  | _ => rfl

theorem isConstruct_of_not_isHostOp (h : isHostOp i = false) : isConstruct i = false := by
  cases i with
  | construct v w h' lines bus => cases h
  | _ => rfl

/-- A step at the host's turn issues the host's next request, or waits. -/
theorem stepEffect_of_fetchHost (hf : ∀ b, s.block = some b → b.faults = 0#5) (hfetch : fetch s = fetchHost s)
    (h : step s = .next t) : StepEffect s t := by
  rcases step_next h with ⟨i, u, hrun, hexec⟩ | hmoved
  · obtain ⟨r, rest, -, hcall, rfl⟩ := fetchHost_run (hfetch ▸ hrun)
    have hi := isHostOp_of_decodeCall hcall
    by_cases hc : isConstruct i = true
    · cases i with
      | construct v w h lines bus =>
        rcases exec_construct_next hexec with ⟨b, hb, hf, rfl⟩ | ⟨hconfig, hturn, rfl⟩
        · exact .issues b _ rest _ hb hf hi (.faults .busyIssue (by decide) hi)
        · exact .constructs v w _ lines bus rest hconfig hturn
      | _ => cases hc
    · obtain ⟨b, hb, hf, heffect⟩ := exec_next (by simpa using hc) hexec
      exact .issues b i rest t hb hf hi heffect
  · rw [hfetch] at hmoved
    cases fetchHost_moved hmoved
    exact .waits hf

/-- A step of the sequencer runs the word at `SEQ.K`, or meets an illegal one, or completes. -/
theorem stepEffect_of_fetchSeq (hb : s.block = some b) (hf : b.faults = 0#5) (hop : b.seq.op ≠ .none)
    (hfetch : fetch s = fetchSeq s.tickHost b) (h : step s = .next t) : StepEffect s t := by
  rcases step_next h with ⟨i, u, hrun, hexec⟩ | hmoved
  · obtain ⟨w, hw, hi, rfl⟩ := fetchSeq_run (hfetch ▸ hrun)
    obtain ⟨c, hc, -, heffect⟩ := exec_next (isConstruct_of_not_isHostOp (isHostOp_of_decodeMicro hi)) hexec
    cases hc
    exact .runs b w i t hb hf hop hw hi heffect
  · rcases fetchSeq_moved (hfetch ▸ hmoved) with ⟨w, e, hw, he, rfl⟩ | ⟨hk, rfl⟩
    · exact .meetsIllegal b w e hb hf hop hw he
    · exact .completes b hb hf hop hk

/-- A step that answers a next state had one of the effects. -/
theorem step_effect (h : step s = .next t) : StepEffect s t := by
  cases hb : s.block with
  | none => exact stepEffect_of_fetchHost (by simp [hb]) (fetch_of_none hb) h
  | some b =>
    have hf : b.faults = 0#5 := by
      by_contra hfaulted
      rw [step_of_faulted hb hfaulted] at h
      cases h
    have hclean : ∀ c, s.block = some c → c.faults = 0#5 := fun c hc => Option.some_inj.mp (hb.symm.trans hc) ▸ hf
    by_cases hop : b.seq.op = .none
    · exact stepEffect_of_fetchHost hclean (fetch_of_idle hb hf (.inl (by simp [Block.busy, hop]))) h
    · cases ho : s.overlapDue with
      | true => exact stepEffect_of_fetchHost hclean (fetch_of_idle hb hf (.inr ho)) h
      | false => exact stepEffect_of_fetchSeq hb hf hop (fetch_of_busy hb hf hop ho) h

end Sys2Proof.Machine
end

section
/-! What no instruction and no step changes: the parameters and `CFG` (R20), the events already in `TRACE` (R35, R59),
and a line that is not the instruction's own (R27 to R29). -/

namespace Sys2Proof.Machine

variable {s t : State} {b : Block} {i : Instr}

/-! ## `CFG` and the parameters (R20) -/

theorem ExecEffect.block_isSome (h : ExecEffect s b i t) : ∃ b', t.block = some b' := by
  cases h <;> exact ⟨_, rfl⟩

/-- No effect of an instruction other than `CONSTRUCT` changes `CFG`, the parameters, or whether an acquisition has
failed. -/
theorem ExecEffect.fixed {b' : Block} (h : ExecEffect s b i t) (hb' : t.block = some b') :
    b'.cfg = b.cfg ∧ t.params = s.params ∧ t.acquisitionFailed = s.acquisitionFailed := by
  cases h with
  | faults f hf hi => cases hb'; exact ⟨rfl, rfl, rfl⟩
  | bringsUp hi hop hphase => cases hb'; exact ⟨rfl, rfl, rfl⟩
  | streams fb hi hop hphase hlen => cases hb'; exact ⟨rfl, rfl, rfl⟩
  | packs w hi hop => cases hb'; exact ⟨rfl, rfl, rfl⟩
  | emits e he hm => cases hb'; cases e <;> exact ⟨rfl, rfl, rfl⟩
  | aborts dc v hi hm => cases hb'; exact ⟨rfl, rfl, rfl⟩

theorem exec_params (h : exec i s = .next t) : t.params = s.params := by
  by_cases hc : isConstruct i = true
  · cases i with
    | construct v w h' lines bus =>
      rcases exec_construct_next h with ⟨b, -, -, rfl⟩ | ⟨-, -, rfl⟩
      · rfl
      · exact construct_params ..
    | _ => cases hc
  · obtain ⟨b, -, -, heffect⟩ := exec_next (by simpa using hc) h
    obtain ⟨b', hb'⟩ := heffect.block_isSome
    exact (heffect.fixed hb').2.1

theorem step_params (h : step s = .next t) : t.params = s.params := by
  cases step_effect h with
  | waits hf => rfl
  | constructs v w h' lines bus rest hconfig hturn => exact construct_params ..
  | issues b i rest t hb hf hi heffect =>
    obtain ⟨b', hb'⟩ := heffect.block_isSome
    exact (heffect.fixed hb').2.1
  | runs b u i t hb hf hop hu hi heffect =>
    obtain ⟨b', hb'⟩ := heffect.block_isSome
    exact (heffect.fixed hb').2.1
  | meetsIllegal b u e hb hf hop hu he => rfl
  | completes b hb hf hop hk => rfl

/-- Settles O47: each effect of an instruction leaves `CFG` and the parameters, and `CONSTRUCT` the parameters. -/
theorem configurationIsFixed : Obligations.ConfigurationIsFixed := by
  refine ⟨fun _ _ => step_params, fun _ _ _ => exec_params, fun s t i hc h => ?_⟩
  obtain ⟨b, hb, -, heffect⟩ := exec_next hc h
  obtain ⟨b', hb'⟩ := heffect.block_isSome
  obtain ⟨hcfg, -, -⟩ := heffect.fixed hb'
  exact ⟨b, b', hb, hb', hcfg⟩

/-! ## The events of `TRACE` and the lines (R35, R59, R60) -/

/-- `TRACE` and the lines are as they were, or one more event has driven its line. -/
def Block.EmitsAtMostOne (b b' : Block) : Prop :=
  (b'.trace = b.trace ∧ b'.dc = b.dc ∧ b'.rst = b.rst ∧ b'.bl = b.bl) ∨
    ∃ e, b'.trace = b.trace ++ [⟨b.seq.op, e⟩] ∧ b'.dc = (b.drive e).dc ∧ b'.rst = (b.drive e).rst ∧
      b'.bl = (b.drive e).bl

theorem Block.EmitsAtMostOne.of_pack {b' : Block} (h : b.pack.EmitsAtMostOne b') : b.EmitsAtMostOne b' := by
  have hdrive : ∀ e, (b.pack.drive e).dc = (b.drive e).dc ∧ (b.pack.drive e).rst = (b.drive e).rst ∧
      (b.pack.drive e).bl = (b.drive e).bl := fun e => by cases e <;> simp [drive]
  simpa [EmitsAtMostOne, hdrive] using h

/-- An effect of an instruction emits at most one event. -/
theorem ExecEffect.emitsAtMostOne {b' : Block} (h : ExecEffect s b i t) (hb' : t.block = some b') :
    b.EmitsAtMostOne b' := by
  cases h with
  | faults f hf hi => cases hb'; exact .inl ⟨rfl, rfl, rfl, rfl⟩
  | bringsUp hi hop hphase => cases hb'; exact .inl ⟨rfl, rfl, rfl, rfl⟩
  | streams fb hi hop hphase hlen => cases hb'; exact .inl ⟨rfl, rfl, rfl, rfl⟩
  | packs w hi hop => cases hb'; exact .inl ⟨rfl, rfl, rfl, rfl⟩
  | emits e he hm => cases hb'; exact .inr ⟨e, by simp, rfl, rfl, rfl⟩
  | aborts dc v hi hm => cases hb'; exact .inr ⟨.lost dc v, rfl, rfl, rfl, rfl⟩

/-- A step on a block that leaves one emits at most one event, or it made the block anew (log entry 10). -/
theorem step_emitsAtMostOne {b' : Block} (h : step s = .next t) (hb' : t.block = some b') :
    (∃ b, s.block = some b ∧ b.EmitsAtMostOne b') ∨
      ∃ cfg pixIn pixOut byteOut, b' = Block.fresh cfg pixIn pixOut byteOut := by
  cases step_effect h with
  | waits hf => exact .inl ⟨b', hb', .inl ⟨rfl, rfl, rfl, rfl⟩⟩
  | constructs v w h' lines bus rest hconfig hturn =>
    obtain ⟨pixIn, pixOut, byteOut, rfl⟩ := eq_fresh_of_construct hb'
    exact .inr ⟨_, pixIn, pixOut, byteOut, rfl⟩
  | issues b i rest t hb hf hi heffect => exact .inl ⟨b, hb, heffect.emitsAtMostOne hb'⟩
  | runs b u i t hb hf hop hu hi heffect => exact .inl ⟨b, hb, (heffect.emitsAtMostOne hb').of_pack⟩
  | meetsIllegal b u e hb hf hop hu he => cases hb'; exact .inl ⟨b, hb, .inl ⟨rfl, rfl, rfl, rfl⟩⟩
  | completes b hb hf hop hk => cases hb'; exact .inl ⟨b, hb, .inl ⟨rfl, rfl, rfl, rfl⟩⟩

/-- Settles O48: a step emits at most one event, or its block is a new one. -/
theorem traceIsAppendOnly : Obligations.TraceIsAppendOnly := by
  intro s t b b' hstep hb hb'
  rcases step_emitsAtMostOne hstep hb' with ⟨c, hc, hemits⟩ | ⟨cfg, pixIn, pixOut, byteOut, rfl⟩
  · cases hb.symm.trans hc
    rcases hemits with ⟨htrace, -⟩ | ⟨e, htrace, -⟩
    · exact .inl ⟨[], by rw [htrace, List.append_nil], Nat.zero_le 1⟩
    · exact .inl ⟨_, htrace, Nat.le_refl 1⟩
  · exact .inr ⟨rfl, rfl, rfl, rfl⟩

/-- An event that drives its line keeps the lines as the trace shows them. -/
theorem Block.lines_drive (h : b.dc = dcOf b.trace ∧ b.rst = rstOf b.trace ∧ b.bl = blOf b.trace) (e : WireEvent) :
    (b.drive e).dc = dcOf (b.trace ++ [⟨b.seq.op, e⟩]) ∧ (b.drive e).rst = rstOf (b.trace ++ [⟨b.seq.op, e⟩]) ∧
      (b.drive e).bl = blOf (b.trace ++ [⟨b.seq.op, e⟩]) := by
  obtain ⟨hdc, hrst, hbl⟩ := h
  simp only [dcOf, rstOf, blOf, List.foldl_append, List.foldl_cons, List.foldl_nil] at hdc hrst hbl ⊢
  cases e with
  | byte dc v => exact ⟨rfl, hrst, hbl⟩
  | lost dc v => exact ⟨rfl, hrst, hbl⟩
  | rst l => exact ⟨hdc, rfl, hbl⟩
  | bl l => exact ⟨hdc, hrst, rfl⟩
  | delay ms => exact ⟨hdc, hrst, hbl⟩

/-- Settles O44: the event a step emits, if any, is the one that drove a line, and a new block has neither. -/
theorem stepKeepsLinesAsTraced : Obligations.StepKeepsLinesAsTraced := by
  intro s t hlines hstep b' hb'
  rcases step_emitsAtMostOne hstep hb' with ⟨b, hb, hemits⟩ | ⟨cfg, pixIn, pixOut, byteOut, rfl⟩
  · have hb := hlines b hb
    rcases hemits with ⟨htrace, hdc, hrst, hbl⟩ | ⟨e, htrace, hdc, hrst, hbl⟩
    · rw [htrace, hdc, hrst, hbl]
      exact hb
    · rw [htrace, hdc, hrst, hbl]
      exact Block.lines_drive hb e
  · exact ⟨rfl, rfl, rfl⟩

/-- Settles O45: the trace is empty and the lines are `UNKNOWN`. -/
theorem resetLinesAsTraced : Obligations.ResetLinesAsTraced := by
  intro b hb
  cases hb
  exact ⟨rfl, rfl, rfl⟩

/-! ## The writers of the lines (R27 to R29) -/

theorem eq_setRst_of_eventBy {o : OpBytes} {l : Bit} (h : eventBy o i = some (.rst l)) : i = .setRst l := by
  cases i <;> cases h
  rfl

theorem eq_setBl_of_eventBy {o : OpBytes} {l : Bit} (h : eventBy o i = some (.bl l)) : i = .setBl l := by
  cases i <;> cases h
  rfl

theorem byteSentBy_of_eventBy {o : OpBytes} {dc : Bit} {v : Byte} (h : eventBy o i = some (.byte dc v)) :
    byteSentBy o i = some (dc, v) := by
  cases i <;> cases h <;> rfl

/-- An event drives one line at most, and each line has the instruction that emits its events. -/
theorem Block.drive_of_eventBy {o : OpBytes} {e : WireEvent} (he : eventBy o i = some e) (b : Block) :
    ((∀ l, i ≠ .setRst l) → (b.drive e).rst = b.rst) ∧ ((∀ l, i ≠ .setBl l) → (b.drive e).bl = b.bl) ∧
      (byteSentBy o i = none → (b.drive e).dc = b.dc) := by
  cases e with
  | byte dc v => exact ⟨fun _ => rfl, fun _ => rfl, fun hnone => by simp [byteSentBy_of_eventBy he] at hnone⟩
  | lost dc v => cases i <;> cases he
  | rst l => exact ⟨fun hne => absurd (eq_setRst_of_eventBy he) (hne l), fun _ => rfl, fun _ => rfl⟩
  | bl l => exact ⟨fun _ => rfl, fun hne => absurd (eq_setBl_of_eventBy he) (hne l), fun _ => rfl⟩
  | delay ms => exact ⟨fun _ => rfl, fun _ => rfl, fun _ => rfl⟩

/-- Settles O49: of the effects only an event and a lost byte drive a line, each its own. -/
theorem linesHaveOneWriter : Obligations.LinesHaveOneWriter := by
  intro s t b b' i hc hb hexec hb'
  obtain ⟨c, hcb, -, heffect⟩ := exec_next hc hexec
  cases hb.symm.trans hcb
  cases heffect with
  | emits e he hm => cases hb'; exact b.drive_of_eventBy he
  | aborts dc v hi hm => cases hb'; exact ⟨fun _ => rfl, fun _ => rfl, fun hnone => by simp [hi] at hnone⟩
  | _ => cases hb'; exact ⟨fun _ => rfl, fun _ => rfl, fun _ => rfl⟩

end Sys2Proof.Machine
end

section
/-! The machine's invariant (10_state.md section 4): every effect of an instruction keeps the block's invariant, and so
does every step. -/

namespace Sys2Proof.Machine

variable {s t : State} {b : Block} {i : Instr} {o : OpBytes}

/-! ## The list of `INITIALIZE`: what each of its events leaves (R105, R107, R109) -/

/-- `S` as a sum over the table (R104). -/
theorem tableMicroOps_eq_sum (t : List TableEntry) : tableMicroOps t = (t.map fun e => 1 + e.params.length).sum := by
  induction t with
  | nil => rfl
  | cons e t ih => rw [tableMicroOps, ih, List.map_cons, List.sum_cons]

/-- After its third event `INITIALIZE` drives no reset line. -/
theorem initEvents_ne_rst {cfg : Cfg} {k : Nat} {e : WireEvent} (hk : 3 ≤ k) (he : (initEvents o cfg)[k]? = some e)
    (l : Bit) : e ≠ .rst l := by
  obtain ⟨j, rfl⟩ := Nat.exists_eq_add_of_le hk
  have htail : initEvents o cfg = [.rst 0#1, .delay 100#9, .rst 1#1] ++ (.delay 100#9 ::
      (cfg.initTable.flatMap entryEvents ++ [.byte 0#1 o.slpout, .delay 120#9, .byte 0#1 o.dispon, .bl 1#1])) := by
    simp [initEvents]
  rw [htail, List.getElem?_append_right (Nat.le_add_right 3 j)] at he
  have hmem := List.mem_of_getElem? he
  simp only [List.mem_cons, List.mem_append, List.not_mem_nil, or_false] at hmem
  rintro rfl
  rcases hmem with h | h | h | h | h | h
  · cases h
  · cases isByte_of_mem_tableEvents h
  all_goals cases h

/-- The last event of `INITIALIZE` turns the backlight on. -/
theorem initEvents_last {cfg : Cfg} {k : Nat} {e : WireEvent} (he : (initEvents o cfg)[k]? = some e)
    (hk : k + 1 = (initEvents o cfg).length) : e = .bl 1#1 := by
  have hlast : (initEvents o cfg).getLast? = some (.bl 1#1) := by
    rw [initEvents, List.getLast?_append]
    rfl
  rw [List.getLast?_eq_getElem?, ← hk, Nat.add_sub_cancel, he] at hlast
  exact Option.some_inj.mp hlast

/-- The phase an advance of `INITIALIZE` leaves goes with the index it leaves (R106, R108). -/
theorem phaseWhile_advance (hop : b.seq.op = .initializeOp) (h : phaseWhile b.cfg b.seq.k b.phase) :
    phaseWhile b.cfg (b.seq.k + 1) (b.phaseAt (b.seq.k + 1)) := by
  have hat : b.phaseAt (b.seq.k + 1) = if b.seq.k + 1 = 4 + tableMicroOps b.cfg.initTable then .configuredOff
    else if b.seq.k + 1 = 4 then .resetting else b.phase := if_pos hop
  unfold phaseWhile at h ⊢
  rw [hat]
  rcases Nat.lt_trichotomy (b.seq.k + 1) 4 with hreset | hstage | htable
  · rw [if_pos (by omega)] at h
    rwa [if_pos hreset, if_neg (by omega), if_neg (by omega)]
  · by_cases hempty : tableMicroOps b.cfg.initTable = 0
    · simp [hstage, hempty]
    · simp [hstage, hempty, Nat.pos_of_ne_zero hempty]
  · rw [if_neg (by omega)] at h
    rw [if_neg (by omega), if_neg (show b.seq.k + 1 ≠ 4 by omega)]
    by_cases hend : b.seq.k + 1 = 4 + tableMicroOps b.cfg.initTable
    · rw [if_neg (by omega), if_pos hend]
    · by_cases hwithin : b.seq.k < 4 + tableMicroOps b.cfg.initTable
      · rw [if_pos hwithin] at h
        rwa [if_pos (by omega), if_neg hend]
      · rw [if_neg hwithin] at h
        rwa [if_neg (by omega), if_neg hend]

/-! ## The list in progress -/

/-- The events of the operation in progress, in the order of its list (R104, R135). -/
def Block.events (o : OpBytes) (b : Block) : List WireEvent :=
  match b.seq.op with
  | .none => []
  | .initializeOp => initEvents o b.cfg
  | .writeFrame => frameEvents o b.cfg b.frame

/-- The list in progress is the words of its events, and `SEQ.K` is within it. -/
theorem Block.Inv.prog_eq (h : b.Inv o) (hop : b.seq.op ≠ .none) :
    b.seq.prog = (b.events o).map WireEvent.word ∧ b.seq.k ≤ b.seq.prog.length := by
  obtain ⟨-, -, hinit, hframe, -⟩ := h
  cases hprogress : b.seq.op with
  | none => exact absurd hprogress hop
  | initializeOp =>
    obtain ⟨hprog, hk, -⟩ := hinit hprogress
    exact ⟨by rw [hprog, initProg_eq_map_word, Block.events, hprogress], hk⟩
  | writeFrame =>
    obtain ⟨-, hk, -, hprog⟩ := hframe hprogress
    exact ⟨by rw [hprog, frameProg_eq_map_word, Block.events, hprogress], hk⟩

theorem succeeded_of_mem_events : ∀ e ∈ b.events o, e.succeeded = true := by
  unfold Block.events
  split
  · simp
  · exact succeeded_of_mem_initEvents o b.cfg
  · exact fun e he => e.succeeded_of_isByte (isByte_of_mem_frameEvents e he)

/-- The word of an event that succeeds decodes to an instruction that emits it. -/
theorem eventBy_of_decodeMicro_word {e : WireEvent} (he : e.succeeded = true) :
    ∃ i, decodeMicro o e.word = .ok i ∧ eventBy o i = some e := by
  cases e with
  | byte dc v =>
    obtain ⟨i, hdec, hi⟩ := decodeMicro_word_byte o dc v
    exact ⟨i, hdec, eventBy_of_byteSentBy hi⟩
  | lost dc v => cases he
  | rst l => exact ⟨.setRst l, decodeMicro_wordRst o l, rfl⟩
  | bl l => exact ⟨.setBl l, decodeMicro_wordBl o l, rfl⟩
  | delay ms => exact ⟨.delay ms, decodeMicro_wordDelay o ms, rfl⟩

/-- The word at `SEQ.K` decodes to an instruction that emits the event at `SEQ.K`. -/
theorem Block.Inv.decodeMicro_word {u : MicroWord} (h : b.Inv o) (hop : b.seq.op ≠ .none)
    (hu : b.seq.prog[b.seq.k]? = some u) :
    ∃ e i, (b.events o)[b.seq.k]? = some e ∧ decodeMicro o u = .ok i ∧ eventBy o i = some e := by
  rw [(h.prog_eq hop).1, List.getElem?_map, Option.map_eq_some_iff] at hu
  obtain ⟨e, he, rfl⟩ := hu
  obtain ⟨i, hi, hevent⟩ := eventBy_of_decodeMicro_word (succeeded_of_mem_events e (List.mem_of_getElem? he))
  exact ⟨e, i, he, hi, hevent⟩

/-! ## What keeps the block's invariant -/

theorem Block.Inv.addFaults (h : b.Inv o) (m : BitVec 5) : (b.addFaults m).Inv o := h

theorem eight_le_length_initProg (o : OpBytes) (cfg : Cfg) : 8 ≤ (initProg o cfg).length := by
  rw [(initProgWords o cfg).2]
  omega

/-- `INITIALIZE` starts within its list, in a phase its first stage may have (R102). -/
theorem Block.Inv.bringsUp (h : b.Inv o) (hop : b.seq.op = .none) (hphase : b.phase = .uninit ∨ b.phase = .initFailed) :
    (b.setSeq ⟨.initializeOp, initProg o b.cfg, 0⟩).Inv o := by
  obtain ⟨hlegal, -, -, -, -, hlent, hactive, hstatus⟩ := h
  refine ⟨hlegal, nofun, fun _ => ⟨rfl, Nat.zero_le _, ?_, nofun, fun hk => ?_⟩, nofun, nofun,
    fun _ => hlent (by simp [hop]), hactive, hstatus⟩
  · simpa [phaseWhile] using hphase
  · have hlen := eight_le_length_initProg o b.cfg
    simp only [Block.setSeq_seq] at hk
    omega

/-- `WRITE_FRAME` starts within its list, the frame buffer lent (R132). -/
theorem Block.Inv.streams (h : b.Inv o) (hphase : b.phase = .active) {fb : List Byte}
    (hlen : fb.length = frameBytes b.cfg) (n : Nat) :
    (((b.setSeq ⟨.writeFrame, frameProg o b.cfg fb, 0⟩).setFrame fb).freePixLatches n).Inv o := by
  obtain ⟨hlegal, -, -, -, -, -, hactive, hstatus⟩ := h
  exact ⟨hlegal, nofun, nofun, fun _ => ⟨hphase, Nat.zero_le _, hlen, rfl⟩, fun _ hk => absurd hk (Nat.not_lt_zero _),
    fun hop => absurd rfl hop, hactive, hstatus⟩

/-- Between operations the packer's latches may hold anything. -/
theorem Block.Inv.packs (h : b.Inv o) (hop : b.seq.op = .none) (w : Word16) : (b.setPixOut w).Inv o := by
  obtain ⟨hlegal, hidle, hinit, hframe, -, hlent, hactive, hstatus⟩ := h
  exact ⟨hlegal, hidle, hinit, hframe, fun hframing => by simp [hop] at hframing, hlent, hactive, hstatus⟩

/-- A block returned to the host is idle, in a phase an operation leaves (R94, R95). -/
theorem Block.inv_returned (hlegal : b.cfg.legal) {p : Phase} {st : Status}
    (hphase : p = .uninit ∨ p = .initFailed ∨ p = .active) (hactive : p = .active → b.rst = .high ∧ b.bl = .high)
    (hstatus : st = ⟨.ok, 0⟩ ∨ ∃ k, st = ⟨.transferError, k⟩) (n : Nat) :
    (((((b.setPhase p).setStatus st).setSeq Seq.idle).setFrame []).freeLatches n).Inv o :=
  ⟨hlegal, fun _ => ⟨rfl, hphase⟩, nofun, nofun, nofun, fun _ => rfl, hactive, hstatus⟩

/-- The block of R40 meets the invariant. -/
theorem Block.inv_fresh {cfg : Cfg} (hlegal : cfg.legal) (pixIn : PixInWord) (pixOut : Word16) (byteOut : WireWord) :
    (Block.fresh cfg pixIn pixOut byteOut).Inv o :=
  ⟨hlegal, fun _ => ⟨rfl, .inl rfl⟩, nofun, nofun, nofun, fun _ => rfl, nofun, .inl rfl⟩

theorem phaseWhile_ne_active {cfg : Cfg} {k : Nat} {p : Phase} (h : phaseWhile cfg k p) : p ≠ .active := by
  rintro rfl
  simp [phaseWhile] at h

/-- No phase of an `INITIALIZE` in progress is `ACTIVE`. -/
theorem Block.Inv.op_ne_of_active (h : b.Inv o) (hphase : b.phase = .active) : b.seq.op ≠ .initializeOp := by
  obtain ⟨-, -, hinit, -⟩ := h
  intro hop
  obtain ⟨-, -, hwhile, -⟩ := hinit hop
  exact phaseWhile_ne_active hwhile hphase

/-- An abort leaves `INIT_FAILED`, or the `ACTIVE` of a `WRITE_FRAME` (R95, R112). -/
theorem Block.Inv.abort {b' : Block} (h : b.Inv o) (hop : b.seq.op ≠ .none) (dc : Bit) (v : Byte)
    (hb' : (abort s ((b.pack.present dc v).emit (.lost dc v))).block = some b') : b'.Inv o := by
  obtain ⟨hlegal, -, -, hframe, -, -, hactive, -⟩ := h
  have hphase : ((b.pack.present dc v).emit (.lost dc v)).phaseOnAbort = b.phaseOnAbort := by simp [phaseOnAbort]
  have hleft : b.phaseOnAbort = .initFailed ∨ b.phaseOnAbort = .active ∧ b.phase = .active := by
    cases hprogress : b.seq.op with
    | none => exact absurd hprogress hop
    | initializeOp => exact .inl (if_pos hprogress)
    | writeFrame =>
      have hphase := (hframe hprogress).1
      exact .inr ⟨(if_neg (by simp [hprogress])).trans hphase, hphase⟩
  rw [Machine.abort, returnToHost_block, hphase] at hb'
  cases hb'
  refine inv_returned (by simpa using hlegal) ?_ (fun hp => ?_) (.inr ⟨_, rfl⟩) _
  · rcases hleft with hp | ⟨hp, -⟩ <;> simp [hp]
  · rcases hleft with hfailed | ⟨-, hphase⟩
    · simp [hfailed] at hp
    · simpa using hactive hphase

/-- A completion leaves `ACTIVE` (R94, R110). -/
theorem Block.Inv.complete {b' : Block} (h : b.Inv o) (hop : b.seq.op ≠ .none) (hk : b.seq.k = b.seq.prog.length)
    (hb' : (complete s b).block = some b') : b'.Inv o := by
  obtain ⟨hlegal, -, hinit, hframe, -, -, hactive, -⟩ := h
  have hdone : b.phaseOnComplete = .active ∧ b.rst = .high ∧ b.bl = .high := by
    cases hprogress : b.seq.op with
    | none => exact absurd hprogress hop
    | initializeOp =>
      obtain ⟨hprog, -, -, hrst, hbl⟩ := hinit hprogress
      have hlen := eight_le_length_initProg o b.cfg
      exact ⟨if_pos hprogress, hrst (by rw [hk, hprog]; omega), hbl hk⟩
    | writeFrame =>
      have hphase := (hframe hprogress).1
      exact ⟨(if_neg (by simp [hprogress])).trans hphase, hactive hphase⟩
  obtain ⟨hphase, hlines⟩ := hdone
  cases hb'
  exact inv_returned hlegal (.inr (.inr hphase)) (fun _ => hlines) (.inl rfl) _

/-! ### A step of the list -/

@[simp] theorem Block.perform_frame (b : Block) (e : WireEvent) : (b.perform e).frame = b.frame := by
  cases e <;> simp [perform, drive]

@[simp] theorem Block.perform_status (b : Block) (e : WireEvent) : (b.perform e).status = b.status := by
  cases e <;> simp [perform, drive]

theorem Block.perform_phase (b : Block) (e : WireEvent) : (b.perform e).phase = b.phaseAt (b.seq.k + 1) := by
  cases e <;> simp [perform, drive, phaseAt]

theorem Block.perform_pixIn_pixOut (b : Block) (e : WireEvent) :
    (b.perform e).pixIn = b.pack.pixIn ∧ (b.perform e).pixOut = b.pack.pixOut := by
  cases e <;> exact ⟨rfl, rfl⟩

/-- The micro-operation at `SEQ.K` of `INITIALIZE` succeeds: the reset line is 1 from the third event on, and the
backlight after the last. -/
theorem Block.Inv.perform_init {e : WireEvent} (h : b.Inv o) (hop : b.seq.op = .initializeOp)
    (he : (initEvents o b.cfg)[b.seq.k]? = some e) : (b.perform e).Inv o := by
  obtain ⟨hlegal, -, hinit, -, -, hlent, -, hstatus⟩ := h
  obtain ⟨hprog, -, hphase, hrst, -⟩ := hinit hop
  have hwhile := phaseWhile_advance hop hphase
  rw [← perform_phase b e] at hwhile
  have hlen : b.seq.prog.length = (initEvents o b.cfg).length := by rw [hprog, length_initProg]
  have hk : b.seq.k < (initEvents o b.cfg).length := (List.getElem?_eq_some_iff.mp he).1
  have hinit' : (b.perform e).initInv o := fun _ => by
    refine ⟨by simpa using hprog, by simpa [hlen] using hk, by simpa using hwhile, fun hthree => ?rst, fun hend => ?bl⟩
    case rst =>
      rcases Nat.lt_or_ge b.seq.k 3 with hlt | hge
      · have htwo : b.seq.k = 2 := by simp only [perform_seq] at hthree; omega
        have hthird : (initEvents o b.cfg)[2]? = some (.rst 1#1) := rfl
        rw [htwo, hthird] at he
        cases he
        rfl
      · have hkept := Block.performAll_rst (es := [e]) (by simpa using initEvents_ne_rst hge he) b
        exact hkept.trans (hrst hge)
    case bl =>
      cases initEvents_last he (by simpa [hlen] using hend)
      rfl
  exact ⟨by simpa using hlegal, fun hidle => by simp [hop] at hidle, hinit', fun hframing => by simp [hop] at hframing,
    fun hframing => by simp [hop] at hframing, fun _ => by simpa using hlent (by simp [hop]),
    fun hactive => absurd hactive (phaseWhile_ne_active hwhile), by simpa [statusInv] using hstatus⟩

/-- Before the micro-operation at `k` of a frame the packer has packed the pixel that it is a byte of. -/
theorem Block.packerInv.pack (h : b.packerInv) (hop : b.seq.op = .writeFrame) (hk : windowOps ≤ b.seq.k)
    {p : PixInWord} (hp : pixelStartingAt b.frame (windowOps + (b.seq.k - windowOps) / 2 * 2) = some p) :
    b.pack.pixIn = p ∧ b.pack.pixOut = packPixIn p := by
  obtain ⟨j, hj⟩ := Nat.exists_eq_add_of_le hk
  have hsub : b.seq.k - windowOps = j := by omega
  rw [hsub] at hp
  rcases Nat.even_or_odd' j with ⟨m, hm | hm⟩
  · have hhigh : pixelStartingAt b.frame b.seq.k = some p := by
      rw [hj, ← hp]
      congr 2
      omega
    simp [Block.pack, hop, hhigh]
  · have hlow : b.pack = b := by
      have hnone := pixelStartingAt_low b.frame m
      rw [show 12 + 2 * m = b.seq.k by rw [hj, windowOps]; omega] at hnone
      simp [Block.pack, hop, hnone]
    rw [hlow]
    refine h hop (by rw [hj, windowOps]; omega) p ?_
    rw [← hp, hsub]
    congr 2
    omega

/-- The micro-operation at `SEQ.K` of `WRITE_FRAME` succeeds: it drives `DC` only, and the packer keeps up. -/
theorem Block.Inv.perform_write {e : WireEvent} (h : b.Inv o) (hop : b.seq.op = .writeFrame)
    (he : (frameEvents o b.cfg b.frame)[b.seq.k]? = some e) : (b.perform e).Inv o := by
  obtain ⟨hlegal, -, -, hframe, hpacker, -, hactive, hstatus⟩ := h
  obtain ⟨hphase, -, hlen, hprog⟩ := hframe hop
  obtain ⟨hk, hget⟩ := List.getElem?_eq_some_iff.mp he
  have hbyte : e.isByte = true := isByte_of_mem_frameEvents e (List.mem_of_getElem? he)
  have hphase' : (b.perform e).phase = .active := by
    rw [perform_phase, phaseAt_of_ne (by simp [hop]), hphase]
  obtain ⟨hrst, hbl⟩ := Block.performAll_rst_bl (es := [e]) (by simpa using hbyte) b
  obtain ⟨hpixIn, hpixOut⟩ := b.perform_pixIn_pixOut e
  have hframe' : (b.perform e).frameInv o := fun _ =>
    ⟨hphase', by simpa [hprog, frameProg_eq_map_word] using hk, by simpa using hlen, by simpa using hprog⟩
  have hpacker' : (b.perform e).packerInv := fun _ hpast p hp => by
    rw [hpixIn, hpixOut]
    simp only [perform_seq, perform_frame] at hpast hp
    refine hpacker.pack hop (by omega) ?_
    rwa [show b.seq.k + 1 - windowOps - 1 = b.seq.k - windowOps by omega] at hp
  exact ⟨by simpa using hlegal, fun hidle => by simp [hop] at hidle, fun hinit => by simp [hop] at hinit, hframe',
    hpacker', fun hne => by simp [hop] at hne, fun _ => ⟨hrst.trans (hactive hphase).1, hbl.trans (hactive hphase).2⟩,
    by simpa [statusInv] using hstatus⟩

/-- The micro-operation at `SEQ.K` succeeds. -/
theorem Block.Inv.perform {e : WireEvent} (h : b.Inv o) (he : (b.events o)[b.seq.k]? = some e) :
    (b.perform e).Inv o := by
  unfold Block.events at he
  split at he
  case h_1 => cases he
  case h_2 hop => exact h.perform_init hop he
  case h_3 hop => exact h.perform_write hop he

end Sys2Proof.Machine
end

section
/-! What the steps keep, from the invariant: the invariant itself (10_state.md section 4), legal words only (R69, R97),
the phases of `INITIALIZE` (R106, R108), and `ACTIVE` for good (R26). -/

namespace Sys2Proof.Machine

variable {s t : State} {b b' : Block} {i : Instr} {o : OpBytes}

/-! ## The effects of a host operation and of a micro-operation -/

theorem eventBy_of_isHostOp (h : isHostOp i = true) : eventBy o i = none ∧ byteSentBy o i = none := by
  cases i with
  | construct v w h' lines bus => exact ⟨rfl, rfl⟩
  | initializeOp => exact ⟨rfl, rfl⟩
  | writeFrame fb => exact ⟨rfl, rfl⟩
  | pack565 r g b => exact ⟨rfl, rfl⟩
  | _ => cases h

/-- A host operation's effect keeps the block's invariant. -/
theorem ExecEffect.inv_of_isHostOp (h : ExecEffect s b i t) (hi : isHostOp i = true) (hinv : b.Inv s.params.ops)
    (hb' : t.block = some b') : b'.Inv s.params.ops := by
  obtain ⟨hevent, hbyte⟩ := eventBy_of_isHostOp (o := s.params.ops) hi
  cases h with
  | faults f hf hi => cases hb'; exact hinv.addFaults f.mask
  | bringsUp hi hop hphase => cases hb'; exact hinv.bringsUp hop hphase
  | streams fb hi hop hphase hlen => cases hb'; exact hinv.streams hphase hlen s.drawn
  | packs w hi hop => cases hb'; exact hinv.packs hop w
  | emits e he hm => simp [hevent] at he
  | aborts dc v hi hm => simp [hbyte] at hi

/-- The effect of the word at `SEQ.K` keeps the block's invariant. -/
theorem ExecEffect.inv_of_word {u : MicroWord} (h : ExecEffect (s.setBlock b.pack) b.pack i t)
    (hinv : b.Inv s.params.ops) (hop : b.seq.op ≠ .none) (hu : b.seq.prog[b.seq.k]? = some u)
    (hi : decodeMicro s.params.ops u = .ok i) (hb' : t.block = some b') : b'.Inv s.params.ops := by
  have hmicro := isHostOp_of_decodeMicro hi
  obtain ⟨e, j, he, hj, hevent⟩ := hinv.decodeMicro_word hop hu
  cases hi.symm.trans hj
  cases h with
  | faults f hf hi => simp [hmicro] at hi
  | bringsUp hi hop hphase => cases hi; cases hmicro
  | streams fb hi hop hphase hlen => cases hi; cases hmicro
  | packs w hi hop => simp [hmicro] at hi
  | emits e' he' hm =>
    cases hevent.symm.trans he'
    cases hb'
    exact hinv.perform he
  | aborts dc v hi hm => exact hinv.abort hop dc v hb'

/-! ## The machine's invariant -/

/-- A new block, or the lack of one, meets the invariant (R99, R100). -/
theorem inv_construct {v : Variant} {w h : Nat} (hconfig : configOk s.params v w h = true) (lines : Lines) (bus : Bus) :
    (construct v w h lines bus s).Inv := by
  rcases construct_cases v w h lines bus s with ⟨-, pixIn, pixOut, byteOut, hblock, hfailed⟩ | ⟨-, hblock, -⟩
  · rw [configOk, Bool.and_eq_true, sizeOk_iff] at hconfig
    obtain ⟨⟨hw, hw', hh, hh', -⟩, -⟩ := hconfig
    refine ⟨fun b hb => ?_, fun hf => by simp [hfailed] at hf⟩
    rw [hblock] at hb
    cases hb
    exact Block.inv_fresh ⟨hw, hw', hh, hh'⟩ pixIn pixOut byteOut
  · exact ⟨fun b hb => by simp [hblock] at hb, fun _ => hblock⟩

/-- A state whose block meets the invariant meets it too, where a block was there before. -/
theorem State.Inv.of_block (hinv : s.Inv) (hb : s.block = some b) (hb' : t.block = some b')
    (hparams : t.params = s.params) (hfailed : t.acquisitionFailed = s.acquisitionFailed)
    (hkept : b.Inv s.params.ops → b'.Inv s.params.ops) : t.Inv := by
  obtain ⟨hblock, hnone⟩ := hinv
  refine ⟨fun c hc => ?_, fun hf => ?_⟩
  · cases hb'.symm.trans hc
    rw [hparams]
    exact hkept (hblock b hb)
  · rw [hfailed] at hf
    simp [hnone hf] at hb

/-- Settles O42: whichever effect the step had, it keeps the block's invariant, and a block exists only while no
acquisition has failed. -/
theorem stepKeepsInvariant : Obligations.StepKeepsInvariant := by
  intro s t hinv hstep
  cases step_effect hstep with
  | waits hf => exact hinv
  | constructs v w h lines bus rest hconfig hturn => exact inv_construct (s := s.setHost rest) hconfig lines bus
  | issues b i rest t hb hf hi heffect =>
    obtain ⟨c, hc⟩ := heffect.block_isSome
    obtain ⟨-, hparams, hfailed⟩ := heffect.fixed hc
    exact hinv.of_block hb hc hparams hfailed fun hkept => heffect.inv_of_isHostOp hi hkept hc
  | runs b u i t hb hf hop hu hi heffect =>
    obtain ⟨c, hc⟩ := heffect.block_isSome
    obtain ⟨-, hparams, hfailed⟩ := heffect.fixed hc
    exact hinv.of_block hb hc hparams hfailed fun hkept => heffect.inv_of_word hkept hop hu hi hc
  | meetsIllegal b u e hb hf hop hu he => exact hinv.of_block hb rfl rfl rfl fun hkept => hkept.addFaults _
  | completes b hb hf hop hk => 
    exact hinv.of_block hb rfl rfl rfl fun hkept => hkept.complete (s := s.tickHost) hop hk rfl

/-- Settles O43: the block of R40, of a configuration of legal size. -/
theorem resetMeetsInvariant : Obligations.ResetMeetsInvariant := by
  refine ⟨fun b hb => ?_, nofun⟩
  cases hb
  exact Block.inv_fresh (by decide) _ _ _

/-! ## Legal words only (R69, R97, R31) -/

/-- An effect of an instruction leaves `FAULT` as it is, or adds a reason that is not `ILLEGAL_MICROOP`. -/
theorem ExecEffect.faults_eq (h : ExecEffect s b i t) (hb' : t.block = some b') :
    b'.faults = b.faults ∨ ∃ f, f ≠ .illegalMicroop ∧ b'.faults = b.faults ||| ContractFault.mask f := by
  cases h with
  | faults f hf hi => cases hb'; exact .inr ⟨f, hf, rfl⟩
  | emits e he hm => cases hb'; exact .inl (by simp)
  | _ => cases hb'; exact .inl rfl

theorem hasFault_illegalMicroop_of_faults
    (h : b.faults = 0#5 ∨ ∃ f, f ≠ .illegalMicroop ∧ b.faults = 0#5 ||| ContractFault.mask f) :
    b.hasFault .illegalMicroop = false := by
  rcases h with h | ⟨f, hf, h⟩
  · rw [Block.hasFault, h]
    rfl
  · rw [Block.hasFault, h]
    cases f with
    | illegalMicroop => exact absurd rfl hf
    | _ => rfl

theorem fetchHost_ne_stopped (s : State) (f : Fault) : fetchHost s ≠ .stopped f := by
  unfold fetchHost
  split
  · nofun
  · split <;> nofun

/-- The sequencer stops only past the end of its list. -/
theorem fetchSeq_stopped {f : Fault} (h : fetchSeq s b = .stopped f) : b.seq.prog.length < b.seq.k := by
  unfold fetchSeq at h
  split at h
  case h_1 u hu => split at h <;> cases h
  case h_2 hnone =>
    have hle := List.getElem?_eq_none_iff.mp hnone
    split at h
    · cases h
    · omega

/-- A stop of the step other than for a contract fault is the sequencer's, past the end of its list. -/
theorem step_sequencerPastEnd {k : Nat} (h : step s = .fault (.sequencerPastEnd k)) :
    ∃ b, s.block = some b ∧ b.seq.op ≠ .none ∧ b.seq.prog.length < b.seq.k := by
  have hfetch : fetch s = .stopped (.sequencerPastEnd k) := by
    unfold step at h
    split at h
    case h_1 i u hrun =>
      obtain ⟨m, hm⟩ := exec_fault h
      cases hm
    case h_2 => cases h
    case h_3 f hstop =>
      cases h
      exact hstop
    case h_4 => cases h
  unfold fetch at hfetch
  split at hfetch
  case h_1 => exact absurd hfetch (fetchHost_ne_stopped s _)
  case h_2 b hb =>
    split_ifs at hfetch with hf hbusy hdue
    · exact absurd hfetch (fetchHost_ne_stopped s _)
    · exact ⟨b, hb, by simpa [Block.busy] using hbusy, fetchSeq_stopped hfetch⟩
    · exact absurd hfetch (fetchHost_ne_stopped s _)
    · cases hfetch

/-- Settles O46: the words of the list in progress are legal, and `SEQ.K` is within it. -/
theorem blockNeverBuildsIllegalWord : Obligations.BlockNeverBuildsIllegalWord := by
  intro s hinv
  refine ⟨fun t b' hstep hb' => hasFault_illegalMicroop_of_faults ?_, fun k hstep => ?_⟩
  · cases step_effect hstep with
    | waits hf => exact .inl (hf b' hb')
    | constructs v w h lines bus rest hconfig hturn =>
      obtain ⟨pixIn, pixOut, byteOut, rfl⟩ := eq_fresh_of_construct hb'
      exact .inl rfl
    | issues b i rest t hb hf hi heffect => exact hf ▸ heffect.faults_eq hb'
    | runs b u i t hb hf hop hu hi heffect =>
      have hfaults := heffect.faults_eq hb'
      rwa [Block.pack_faults, hf] at hfaults
    | meetsIllegal b u e hb hf hop hu he =>
      obtain ⟨-, i, -, hi, -⟩ := (hinv.1 b hb).decodeMicro_word hop hu
      cases he.symm.trans hi
    | completes b hb hf hop hk => cases hb'; exact .inl hf
  · obtain ⟨b, hb, hop, hpast⟩ := step_sequencerPastEnd hstep
    exact absurd ((hinv.1 b hb).prog_eq hop).2 (by omega)

/-! ## The phases (R26, R106, R108) -/

/-- Of the effects of an instruction only an event advances `SEQ.K`. -/
theorem ExecEffect.eq_advance (h : ExecEffect s b i t) (hb' : t.block = some b') (hk : b'.seq.k = b.seq.k + 1) :
    ∃ e, b' = ((b.drive e).emit e).advance := by
  cases h with
  | faults f hf hi => cases hb'; simp at hk
  | bringsUp hi hop hphase => cases hb'; cases hk
  | streams fb hi hop hphase hlen => cases hb'; cases hk
  | packs w hi hop => cases hb'; simp at hk
  | emits e he hm => cases hb'; exact ⟨e, rfl⟩
  | aborts dc v hi hm => cases hb'; cases hk

/-- An instruction that advances `SEQ.K` emitted an event: a new block is at 0. -/
theorem exec_eq_advance (hb : s.block = some b) (hexec : exec i s = .next t) (hb' : t.block = some b')
    (hk : b'.seq.k = b.seq.k + 1) : ∃ e, b' = ((b.drive e).emit e).advance := by
  by_cases hc : isConstruct i = true
  · cases i with
    | construct v w h lines bus =>
      rcases exec_construct_next hexec with ⟨c, hcb, -, rfl⟩ | ⟨-, -, rfl⟩
      · cases hb.symm.trans hcb
        cases hb'
        simp at hk
      · obtain ⟨pixIn, pixOut, byteOut, rfl⟩ := eq_fresh_of_construct hb'
        cases hk
    | _ => cases hc
  · obtain ⟨c, hcb, -, heffect⟩ := exec_next (by simpa using hc) hexec
    cases hb.symm.trans hcb
    exact heffect.eq_advance hb' hk

/-- Settles O14: what advances `SEQ.K` sets the phase that goes with it. -/
theorem phaseChangesAtStageEnds : Obligations.PhaseChangesAtStageEnds := by
  intro s t b b' i hb hexec hb' hk
  obtain ⟨e, rfl⟩ := exec_eq_advance hb hexec hb' hk
  have hphase : ((b.drive e).emit e).advance.phase = b.phaseAt (b.seq.k + 1) := by
    cases e <;> rfl
  rw [hphase, Block.phaseAt, tableMicroOps_eq_sum]
  by_cases hop : b.seq.op = .initializeOp
  · simp [hop]
  · simp [hop]

/-- Outside `INITIALIZE` no effect of an instruction leaves `ACTIVE`. -/
theorem ExecEffect.phase_active (h : ExecEffect s b i t) (hop : b.seq.op ≠ .initializeOp) (hphase : b.phase = .active)
    (hb' : t.block = some b') : b'.phase = .active := by
  cases h with
  | bringsUp hi hop' hphase' => simp [hphase] at hphase'
  | emits e he hm =>
    cases hb'
    rw [Block.advance_phase, Block.phaseAt_of_ne (by simpa using hop), Block.emit_phase, Block.drive_phase, hphase]
  | aborts dc v hi hm => cases hb'; exact (if_neg hop).trans hphase
  | _ => cases hb'; exact hphase

/-- Settles O51: in `ACTIVE` no `INITIALIZE` is in progress, and none starts. -/
theorem activeIsFinal : Obligations.ActiveIsFinal := by
  refine ⟨fun s t b b' i hinv hb hphase hc hexec hb' => ?exec, fun s t b b' hinv hb hphase hstep hb' => ?step⟩
  case exec =>
    obtain ⟨c, hcb, -, heffect⟩ := exec_next hc hexec
    cases hb.symm.trans hcb
    exact heffect.phase_active ((hinv.1 b hb).op_ne_of_active hphase) hphase hb'
  case step =>
    have hop := (hinv.1 b hb).op_ne_of_active hphase
    cases step_effect hstep with
    | waits hf => cases hb.symm.trans hb'; exact .inl hphase
    | constructs v w h lines bus rest hconfig hturn =>
      obtain ⟨pixIn, pixOut, byteOut, rfl⟩ := eq_fresh_of_construct hb'
      exact .inr ⟨rfl, rfl, rfl⟩
    | issues c i rest t hcb hf hi heffect =>
      cases hb.symm.trans hcb
      exact .inl (heffect.phase_active hop hphase hb')
    | runs c u i t hcb hf hop' hu hi heffect =>
      cases hb.symm.trans hcb
      exact .inl (heffect.phase_active (by simpa using hop) (by simpa using hphase) hb')
    | meetsIllegal c u e hcb hf hop' hu he =>
      cases hb.symm.trans hcb
      cases hb'
      exact .inl hphase
    | completes c hcb hf hop' hk =>
      cases hb.symm.trans hcb
      cases hb'
      exact .inl ((if_neg hop).trans hphase)

end Sys2Proof.Machine
end

section
/-! The host boundary (R71, R72, R152, R181): what the decoder of host operations refuses, and that a step at the host's
turn answers the refusal or runs the request. -/

namespace Sys2Proof

/-! ## Operands outside their type (R72) -/

theorem byteOf_eq_none {n : Nat} (h : 256 ≤ n) : byteOf n = none := if_neg (Nat.not_lt.mpr h)

theorem bytesOf_eq_none {ns : List Nat} (h : ∃ n ∈ ns, 256 ≤ n) : bytesOf ns = none := by
  induction ns with
  | nil => simp at h
  | cons m ms ih =>
    obtain ⟨n, hn, hlarge⟩ := h
    rw [bytesOf.eq_def]
    rcases List.mem_cons.mp hn with rfl | hn
    · simp [byteOf_eq_none hlarge]
    · simp [ih ⟨n, hn, hlarge⟩]

theorem decodeConstruct_eq_none {operands : List Operand}
    (h : ∀ v w h l b, operands ≠ [.variant v, .nat w, .nat h, .lines l, .bus b]) : decodeConstruct operands = none := by
  unfold decodeConstruct
  split
  · exact absurd rfl (h _ _ _ _ _)
  · rfl

theorem decodeInitialize_eq_none {operands : List Operand} (h : operands ≠ []) : decodeInitialize operands = none := by
  unfold decodeInitialize
  split
  · exact absurd rfl h
  · rfl

theorem decodeWriteFrame_eq_none {operands : List Operand} (h : ∀ ns, operands ≠ [.bytes ns]) :
    decodeWriteFrame operands = none := by
  unfold decodeWriteFrame
  split
  · exact absurd rfl (h _)
  · rfl

theorem decodePack565_eq_none {operands : List Operand} (h : ∀ r g b, operands ≠ [.nat r, .nat g, .nat b]) :
    decodePack565 operands = none := by
  unfold decodePack565
  split
  · exact absurd rfl (h _ _ _)
  · rfl

theorem decodePack565_eq_none_of_large {r g b : Nat} (h : 256 ≤ r ∨ 256 ≤ g ∨ 256 ≤ b) :
    decodePack565 [.nat r, .nat g, .nat b] = none := by
  rcases h with h | h | h <;> simp [decodePack565, byteOf_eq_none h]

/-- A selector that is no operation's is refused before its operands are looked at (R71). -/
theorem decodeHost_of_reserved {opid : BitVec 4} (operands : List Operand) (h : opid = 0#4 ∨ 5 ≤ opid.toNat) :
    decodeHost opid operands = .error (.reservedOpid opid) := by
  have hne : opid ≠ 1#4 ∧ opid ≠ 2#4 ∧ opid ≠ 3#4 ∧ opid ≠ 4#4 := by
    rcases h with rfl | h
    · decide
    · refine ⟨?_, ?_, ?_, ?_⟩ <;> rintro rfl <;> exact absurd h (by decide)
  obtain ⟨h1, h2, h3, h4⟩ := hne
  rw [decodeHost, if_neg h1, if_neg h2, if_neg h3, if_neg h4]

theorem orOutsideType_of_none (opid : BitVec 4) {d : Option Instr} (h : d = none) :
    orOutsideType opid d = .error (.operandOutsideType opid) := by
  rw [h, orOutsideType]

namespace Machine

variable {s : State}

/-! ## The host's turn (R184, R189) -/

/-- At the host's turn a step looks at the host's requests. -/
theorem HostTurn.fetch_eq (h : HostTurn s) : fetch s = fetchHost s := by
  rcases h with hb | ⟨b, hb, hf, hop⟩ | ⟨b, hb, hf, hdue⟩
  · exact fetch_of_none hb
  · exact fetch_of_idle hb hf (.inl (by simp [Block.busy, hop]))
  · exact fetch_of_idle hb hf (.inr hdue)

/-- A request that does not decode is refused by the step. -/
theorem HostTurn.step_of_error {r : HostRequest} {rest : List HostRequest} {e : Refusal} (h : HostTurn s)
    (hs : s.host = r :: rest) (he : decodeCall s r.call = .error e) : step s = .refused e := by
  simp [step, h.fetch_eq, fetchHost, hs, he]

/-- A request that decodes is run by the step, popped from the list. -/
theorem HostTurn.step_of_ok {r : HostRequest} {rest : List HostRequest} {i : Instr} (h : HostTurn s)
    (hs : s.host = r :: rest) (hi : decodeCall s r.call = .ok i) : step s = exec i (s.setHost rest) := by
  simp [step, h.fetch_eq, fetchHost, hs, hi]

/-- The refusals of an image (R152, log entry 21). -/
theorem decodeImage_error (img : Image) :
    (s.block = none → decodeImage s img = .error .noBlock) ∧
    (s.block ≠ none → (img.sw = 0 ∨ img.sh = 0) → decodeImage s img = .error .emptyImage) ∧
    (s.block ≠ none → 1 ≤ img.sw → 1 ≤ img.sh → img.bytes.length ≠ 3 * img.sw * img.sh →
      decodeImage s img = .error .imageBytes) := by
  cases hb : s.block with
  | none => exact ⟨fun _ => by rw [decodeImage, hb], fun h => absurd rfl h, fun h => absurd rfl h⟩
  | some b =>
    refine ⟨nofun, fun _ hempty => ?_, fun _ hsw hsh hlen => ?_⟩
    · simp only [decodeImage, hb, if_pos hempty]
    · have hsome : ¬ (img.sw = 0 ∨ img.sh = 0) := by omega
      simp only [decodeImage, hb, if_neg hsome, if_neg hlen]

/-- Settles O5: each operand decoder gives nothing outside its type, and the step answers what the boundary refuses. -/
theorem hostBoundaryRefuses : Obligations.HostBoundaryRefuses := by
  refine ⟨fun _ operands => decodeHost_of_reserved operands, fun operands => ⟨fun h => ?_, fun h => ?_, fun h => ?_,
    fun h => ?_⟩, fun r g b h => ?_, fun ns h => ?_, ?_, ?_⟩
  · exact orOutsideType_of_none 1#4 (decodeConstruct_eq_none h)
  · exact orOutsideType_of_none 2#4 (decodeInitialize_eq_none h)
  · exact orOutsideType_of_none 3#4 (decodeWriteFrame_eq_none h)
  · exact orOutsideType_of_none 4#4 (decodePack565_eq_none h)
  · exact orOutsideType_of_none 4#4 (decodePack565_eq_none_of_large h)
  · exact orOutsideType_of_none 3#4 (by simp [decodeWriteFrame, bytesOf_eq_none h])
  · intro s r rest opid operands e hturn hs hcall he
    exact hturn.step_of_error hs (by simp [hcall, decodeCall, he])
  · intro s r rest img hturn hs hcall
    obtain ⟨hnone, hempty, hbytes⟩ := decodeImage_error (s := s) img
    have hdecode : decodeCall s r.call = decodeImage s img := by rw [hcall, decodeCall]
    rw [← hdecode] at hnone hempty hbytes
    exact ⟨fun hb => hturn.step_of_error hs (hnone hb), fun hb h => hturn.step_of_error hs (hempty hb h),
      fun hb hsw hsh hlen => hturn.step_of_error hs (hbytes hb hsw hsh hlen)⟩

/-- Settles O37: the step is the sequencer's or the host's, and the packer's work is that of the pixel that starts at
`SEQ.K`. -/
theorem stepRunsDecodedInstruction : Obligations.StepRunsDecodedInstruction := by
  refine ⟨?seq, ?packs, ?rests, ?host, fun s h => ⟨tickHost_of_blocking h, overlapDue_of_blocking h⟩⟩
  case seq =>
    rintro s b u i ⟨hb, hf, hop, -⟩ hdue hu hi
    simp [step, fetch_of_busy hb hf hop hdue, fetchSeq, hu, hi, State.setBlock]
  case packs =>
    intro b i red green blue hop hk hr hg hb
    have hpixel := pixelStartingAt_high hr hg hb
    rw [← hk] at hpixel
    simp only [Block.pack, if_pos hop, hpixel, Block.packPixel, packPixIn_pixInOf]
    rfl
  case rests =>
    intro b hrest
    rcases hrest with hop | hk | ⟨i, hk⟩
    · exact Block.pack_of_ne hop
    · simp [Block.pack, pixelStartingAt_window hk]
    · simp [Block.pack, hk, pixelStartingAt_low]
  case host => exact fun s r rest i hturn hs hi => hturn.step_of_ok hs hi

/-- Settles O40: it is the host's turn, and no request is left. -/
theorem idleBlockWaits : Obligations.IdleBlockWaits := by
  intro s b hr hs
  have hturn : HostTurn s := .inr (.inl ⟨b, hr⟩)
  exact step_of_moved (by simp [hturn.fetch_eq, fetchHost, hs])

/-- Settles O41: the reset state's block is that of R40, and its trace is empty. -/
theorem resetValues : Obligations.ResetValues :=
  ⟨_, rfl, rfl, rfl, rfl, rfl, rfl, rfl, rfl, rfl, rfl, rfl, rfl, State.panel_allUnknown_of_trace_nil rfl rfl⟩

end Machine

end Sys2Proof
end

section
/-! The host operations on a block that is ready for one: what `INITIALIZE` and `WRITE_FRAME` start (R102, R132), a
`CONSTRUCT` whose acquisitions fail (R100), and one that starts anew (R200). -/

namespace Sys2Proof.Machine

variable {s : State}

/-- Settles O21: the phase passes the check of R102. -/
theorem initializeStartsSequence : Obligations.InitializeStartsSequence := by
  intro s b hr hphase
  rw [exec, execInitialize, hr.hostOp_eq, if_pos hphase]
  rfl

/-- Settles O23: the phase and the frame's length pass their checks, and the latches are freely drawn. -/
theorem writeFrameStartsSequence : Obligations.WriteFrameStartsSequence := by
  intro s b fb hr hphase hlen
  have hsize : fb.length = frameBytes b.cfg := hlen
  have hexec : exec (.writeFrame fb) s = .next (s.setBlock (((b.setSeq ⟨.writeFrame, frameProg s.params.ops b.cfg fb,
      0⟩).setFrame fb).freePixLatches s.drawn)).countDraw := by
    rw [exec, execWriteFrame, hr.hostOp_eq, if_pos hphase, if_pos hsize]
  exact ⟨_, _, _, hexec, rfl, rfl, rfl, rfl, rfl⟩

/-- The first acquisition that fails is the last one asked for. -/
theorem acquire_of_fail {n m : Nat} {rest : List Answer} (hnm : n < m)
    (h : s.answers = List.replicate n .ok ++ .fail :: rest) :
    (acquire m s).1 = false ∧ (acquire m s).2.answers = rest := by
  induction n generalizing s m with
  | zero =>
    obtain ⟨k, rfl⟩ := Nat.exists_eq_add_of_lt hnm
    have hans : s.answers = .fail :: rest := h
    simp [acquire, State.nextAnswer_cons hans, hans]
  | succ n ih =>
    obtain ⟨k, rfl⟩ := Nat.exists_eq_add_of_lt hnm
    have hans : s.answers = .ok :: (List.replicate n .ok ++ .fail :: rest) := by simpa [List.replicate_succ] using h
    simp only [acquire, State.nextAnswer_cons hans]
    exact ih (by omega) (by simp [hans])

/-- The state once an acquisition has failed: no block, and `ACQUISITION_ERROR` returned (R100). -/
theorem construct_of_acquire_fail {t : State} (hacq : acquire 4 s = (false, t)) (v : Variant) (w h : Nat)
    (lines : Lines) (bus : Bus) :
    construct v w h lines bus s = (t.dropBlock.setRet (.status .acquisitionError 0)).setAcquisitionFailed true := by
  rw [construct, hacq]

/-- Settles O17: no later acquisition is asked for, and where none exists after a failure no operation is defined. -/
theorem failedAcquisitionLeavesNoBlock : Obligations.FailedAcquisitionLeavesNoBlock := by
  intro s v w h lines bus n rest hb ha hconfig hn hans
  obtain ⟨hfail, hrest⟩ := acquire_of_fail hn hans
  obtain ⟨-, hparams, hhost, -⟩ := acquire_frame 4 s
  have hconstruct := construct_of_acquire_fail (Prod.ext hfail rfl) v w h lines bus
  refine ⟨_, (exec_construct_of_configOk hb ha hconfig).trans (congrArg _ hconstruct), rfl, rfl, hrest, hhost, hparams,
    fun i => noBlockNoOperation _ i rfl (.inr rfl)⟩

/-- Acquisitions look at neither the block nor an earlier failure, and leave both. -/
theorem acquire_of_block (n : Nat) (s : State) (ob : Option Block) (f : Bool) :
    acquire n { s with block := ob, acquisitionFailed := f } =
      ((acquire n s).1, { (acquire n s).2 with block := ob, acquisitionFailed := f }) := by
  induction n generalizing s with
  | zero => rfl
  | succ n ih =>
    have hnext : ({ s with block := ob, acquisitionFailed := f } : State).nextAnswer = s.nextAnswer := rfl
    rw [acquire, acquire, hnext]
    cases s.nextAnswer with
    | ok => exact ih s.afterAnswer
    | fail => rfl

/-- A construction writes the block and the failure, whatever they were. -/
theorem construct_of_block (s : State) (ob : Option Block) (f : Bool) (v : Variant) (w h : Nat) (lines : Lines)
    (bus : Bus) :
    construct v w h lines bus { s with block := ob, acquisitionFailed := f } = construct v w h lines bus s := by
  unfold construct
  rw [acquire_of_block]
  rcases acquire 4 s with ⟨ok, t⟩
  cases ok <;> rfl

/-- Settles O19: past the checks of issue a construction depends on the answers and the parameters only. -/
theorem constructStartsAnew : Obligations.ConstructStartsAnew := by
  intro s b v w h lines bus ⟨hb, hf, hop⟩
  have hissued : exec (.construct v w h lines bus) s = constructChecked v w h lines bus s := by
    rw [exec, execConstruct, hb]
    exact issueOn_idle hf (by simp [Block.busy, hop])
  rw [hissued]
  simp [exec, execConstruct, constructChecked, construct_of_block]

end Sys2Proof.Machine
end

section
/-! The named panel commands (R115): each sends the byte of its own row (R77). -/

namespace Sys2Proof.Machine

/-- A pair of a command and its byte, out of some of the rows. -/
theorem byteSentBy_of_mem_rows {o : OpBytes} {rows : List (Byte × Instr)} {i : Instr} {v : Byte}
    (hrows : rows ⊆ namedCmds o) (h : (i, v) ∈ rows.map Prod.swap) : byteSentBy o i = some (0#1, v) := by
  obtain ⟨row, hrow, hswap⟩ := List.mem_map.mp h
  cases hswap
  exact byteSentBy_of_mem_namedCmds (hrows hrow)

/-- Settles O8: they are the named commands after the fifth. -/
theorem tableCommandsSendTheirByte : Obligations.TableCommandsSendTheirByte :=
  fun s _ _ _ hr hmem =>
    sendsByte_of_byteSentBy hr (byteSentBy_of_mem_rows (List.drop_subset 5 (namedCmds s.params.ops)) hmem)

/-- Settles O9: they are the first five named commands. -/
theorem ownedCommandsSendTheirByte : Obligations.OwnedCommandsSendTheirByte :=
  fun s _ _ _ hr hmem =>
    sendsByte_of_byteSentBy hr (byteSentBy_of_mem_rows (List.take_subset 5 (namedCmds s.params.ops)) hmem)

end Sys2Proof.Machine
end

section
/-! The host's resize (R152, R153): a pixel of the image is three bytes, and the frame is the pixels the index map
names, row by row. -/

namespace Sys2Proof.Machine

/-! ## Lists of pieces of one length -/

/-- A list put together from pieces of length `len` has piece `i` at `i * len`. -/
theorem getElem?_flatMap_of_length {α β : Type} {f : α → List β} {len : Nat} {l : List α}
    (hf : ∀ a ∈ l, (f a).length = len) {i j : Nat} {a : α} (ha : l[i]? = some a) (hj : j < len) :
    (l.flatMap f)[i * len + j]? = (f a)[j]? := by
  induction l generalizing i with
  | nil => simp at ha
  | cons c l ih =>
    obtain ⟨hc, hl⟩ := List.forall_mem_cons.mp hf
    rw [List.flatMap_cons]
    cases i with
    | zero =>
      cases ha
      rw [Nat.zero_mul, Nat.zero_add, List.getElem?_append_left (by omega)]
    | succ i =>
      have hskip : (i + 1) * len + j = (f c).length + (i * len + j) := by rw [hc, Nat.succ_mul]; omega
      rw [hskip, List.getElem?_append_right (Nat.le_add_right _ _), Nat.add_sub_cancel_left]
      exact ih hl (by simpa using ha)

theorem length_flatMap_of_length {α β : Type} {f : α → List β} {len : Nat} {l : List α}
    (hf : ∀ a ∈ l, (f a).length = len) : (l.flatMap f).length = l.length * len := by
  rw [List.length_flatMap, List.map_congr_left hf, List.map_const', List.sum_replicate, smul_eq_mul]

/-! ## The index map and the pixels of an image (R152, R153) -/

theorem nnIndex_of_nil {p : Params} (h : p.nnMap = []) (d srcDim dstDim : Nat) :
    nnIndex p d srcDim dstDim = (2 * d + 1) * srcDim / (2 * dstDim) := by
  simp [nnIndex, h, nnDefault]

/-- The default index map stays within the source. -/
theorem nn_lt {d srcDim dstDim : Nat} (hd : d < dstDim) (hsrc : 1 ≤ srcDim) :
    (2 * d + 1) * srcDim / (2 * dstDim) < srcDim :=
  Nat.div_lt_of_lt_mul (Nat.mul_lt_mul_of_pos_right (by omega) hsrc)

/-- A pixel within the image is its three bytes. -/
theorem Image.pixel_spec {img : Image} (hlen : img.bytes.length = 3 * img.sw * img.sh) {x y : Nat} (hx : x < img.sw)
    (hy : y < img.sh) : (img.pixel x y).length = 3 ∧
      ∀ c < 3, (img.pixel x y)[c]? = img.bytes[3 * (y * img.sw + x) + c]? := by
  have hpixel : y * img.sw + x < img.sw * img.sh :=
    calc y * img.sw + x < (y + 1) * img.sw := by rw [Nat.succ_mul]; omega
      _ ≤ img.sh * img.sw := Nat.mul_le_mul_right _ hy
      _ = img.sw * img.sh := Nat.mul_comm ..
  rw [Nat.mul_assoc] at hlen
  refine ⟨?_, fun c hc => ?_⟩
  · rw [Image.pixel, List.length_take, List.length_drop]
    omega
  · rw [Image.pixel, List.getElem?_take_of_lt hc, List.getElem?_drop]

/-- Settles O36: row `y` of the frame is at `y * (W * 3)`, and pixel `x` of the row at `x * 3` in it. -/
theorem resizeSamplesPixelCentres : Obligations.ResizeSamplesPixelCentres := by
  intro p img w h hmap hsw hsh hlen
  have hpixel : ∀ x < w, ∀ y < h, _ := fun x hx y hy => Image.pixel_spec hlen (nn_lt hx hsw) (nn_lt hy hsh)
  have hrow : ∀ y < h, ∀ x ∈ List.range w,
      (img.pixel (nnIndex p x img.sw w) (nnIndex p y img.sh h)).length = 3 := fun y hy x hx => by
    rw [nnIndex_of_nil hmap, nnIndex_of_nil hmap]
    exact (hpixel x (List.mem_range.mp hx) y hy).1
  have hrows : ∀ y ∈ List.range h, ((List.range w).flatMap fun x =>
      img.pixel (nnIndex p x img.sw w) (nnIndex p y img.sh h)).length = w * 3 := fun y hy => by
    rw [length_flatMap_of_length (hrow y (List.mem_range.mp hy)), List.length_range]
  refine ⟨?_, fun x y c hx hy hc => ⟨nn_lt hx hsw, nn_lt hy hsh, ?_⟩⟩
  · rw [resize, length_flatMap_of_length hrows, List.length_range]
    ring
  · have hindex : 3 * (y * w + x) + c = y * (w * 3) + (x * 3 + c) := by ring
    have hcolumn : x * 3 + c < w * 3 := by omega
    rw [hindex, resize, getElem?_flatMap_of_length hrows (List.getElem?_range hy) hcolumn,
      getElem?_flatMap_of_length (hrow y hy) (List.getElem?_range hx) hc, nnIndex_of_nil hmap, nnIndex_of_nil hmap]
    exact (hpixel x hx y hy).2 c hc

end Sys2Proof.Machine
end

section
/-! A host operation whose byte of index `n` fails: the events before it, the lost byte, and the abort (R85, R95,
R147). -/

namespace Sys2Proof.Machine

/-- The sequencer's step at the word of a byte the transport fails aborts. -/
theorem step_of_lost {s : State} {b : Block} {dc : Bit} {v : Byte} (hb : s.block = some b) (hf : b.faults = 0#5)
    (hop : b.seq.op ≠ .none) (hh : ∀ r ∈ s.host, r.flow = .blocking)
    (hu : b.seq.prog[b.seq.k]? = some (WireEvent.byte dc v).word) (ha : s.nextAnswer = .fail) :
    step s = .next (abort s.afterAnswer ((b.pack.present dc v).emit (.lost dc v))) := by
  have hr : MicroReady s b := ⟨hb, hf, hop, (List.getElem?_eq_some_iff.mp hu).1⟩
  obtain ⟨i, hdec, hi⟩ := decodeMicro_word_byte s.params.ops dc v
  rw [step_of_word hr hh hu hdec]
  exact exec_of_byteSentBy_fail hr.setBlock_pack hi ha

/-- A host operation at its start, whose list is the words of bytes, and whose byte of index `n` is the first that
fails, emits the events before it and aborts (R95). -/
theorem run_aborts {op : SeqOp} {es : List WireEvent} {s : State} {b : Block} {n : Nat} {dc : Bit} {v : Byte}
    {rest : List Answer} (hb : s.block = some b) (hf : b.faults = 0#5) (hseq : b.seq = ⟨op, es.map WireEvent.word, 0⟩)
    (hop : op ≠ .none) (hh : ∀ r ∈ s.host, r.flow = .blocking) (hes : ∀ e ∈ es, e.isByte = true)
    (he : es[n]? = some (.byte dc v)) (ha : s.answers = List.replicate n .ok ++ .fail :: rest) :
    ∃ t : State, Host.Core.run core (n + 1) s =
        .next (abort t.afterAnswer (((b.performAll (es.take n)).pack.present dc v).emit (.lost dc v))) ∧
      t.answers = .fail :: rest := by
  obtain ⟨hlt, -⟩ := List.getElem?_eq_some_iff.mp he
  have hlen : (es.take n).length = n := List.length_take_of_le hlt.le
  have hsent : ∀ e ∈ es.take n, e.isByte = true := fun e he => hes e (List.mem_of_mem_take he)
  have hcount : (es.take n).countP WireEvent.isByte = n := by rw [List.countP_eq_length.mpr hsent, hlen]
  obtain ⟨t, hrun, hblock, hanswers, hhost, -⟩ := run_events (es := es.take n) (after := (es.drop n).map WireEvent.word)
    hb hf (by rwa [hseq]) hh (by rw [hseq, ← List.map_append, List.take_append_drop, List.drop_zero])
    (fun e he => e.succeeded_of_isByte (hsent e he)) (hcount.symm ▸ ha)
  have hstep := step_of_lost (dc := dc) (v := v) hblock (by simpa using hf) (by simpa [hseq] using hop) (hhost ▸ hh)
    (by simp [hseq, hlen, he]) (State.nextAnswer_cons hanswers)
  refine ⟨t, ?_, hanswers⟩
  have hsteps := hrun 1
  rw [hlen] at hsteps
  rw [hsteps, run_succ hstep]
  rfl

/-- Settles O54: the run emits the events before the byte that fails, and the abort leaves the phase and the lines but
for `DC`. -/
theorem writeFrameAbortIsPrecise : Obligations.WriteFrameAbortIsPrecise := by
  intro s b fb n rest hb hf hlen hphase hseq hh hn ha
  have hop : b.seq.op = .writeFrame := by rw [hseq]
  rw [frameProg_eq_map_word] at hseq
  have hevents : (frameEvents s.params.ops b.cfg fb).length = 11 + 2 * (b.cfg.w * b.cfg.h) := by
    rw [length_frameEvents, pixels_of_length_eq hlen]
  obtain ⟨e, he⟩ : ∃ e, (frameEvents s.params.ops b.cfg fb)[n]? = some e :=
    ⟨_, List.getElem?_eq_getElem (by omega)⟩
  obtain ⟨dc, v, rfl⟩ := WireEvent.eq_byte_of_isByte (isByte_of_mem_frameEvents e (List.mem_of_getElem? he))
  obtain ⟨t, hrun, hanswers⟩ := run_aborts hb hf hseq (by simp) hh isByte_of_mem_frameEvents he ha
  have hsent : ∀ e ∈ (frameEvents s.params.ops b.cfg fb).take n, e.isByte = true := fun e he =>
    isByte_of_mem_frameEvents e (List.mem_of_mem_take he)
  obtain ⟨hrst, hbl⟩ := b.performAll_rst_bl hsent
  have hactive := (b.performAll_phase (by simp [hop]) ((frameEvents s.params.ops b.cfg fb).take n)).trans hphase
  have htaken : ((frameEvents s.params.ops b.cfg fb).take n).length = n := List.length_take_of_le (by omega)
  refine ⟨_, _, dc, v, hrun, returnToHost_block .., ?_⟩
  simp [abort, Block.phaseOnAbort, Seq.idle, hseq, hf, hactive, hrst, hbl, he, hanswers, tagged, htaken, levelOf]

end Sys2Proof.Machine
end

section
/-! What makes the panel receiver forget (R167, R174, R175, R204): a reset pulse that is cut short, a byte that comes
too early or is lost, and a command it does not know. -/

namespace Sys2Proof.Machine

variable {p : Params} {v : Variant} {q : Panel} {op : SeqOp} {dc : Bit} {b : Byte}

/-! ## Every field unknown -/

theorem Panel.allUnknown_forgetAll (q : Panel) : q.forgetAll.AllUnknown :=
  ⟨rfl, rfl, rfl, rfl, rfl, rfl, rfl, rfl, rfl, rfl, rfl, rfl, rfl, rfl⟩

theorem Panel.AllUnknown.startWake (h : q.AllUnknown) (dc : Bit) (b : Byte) : (q.startWake p dc b).AllUnknown := by
  simpa [Panel.AllUnknown] using h

/-- A wait with no reset due leaves unknown what is unknown. -/
theorem Panel.AllUnknown.wait (h : q.AllUnknown) (hdue : q.resetDue = false) (ms : Nat) : (q.wait ms).AllUnknown := by
  cases hhigh : q.highFor with
  | none => rw [Panel.wait_of_none hhigh]; exact h
  | some n =>
    rcases Nat.lt_or_ge (n + ms) 100 with hshort | hlong
    · rw [Panel.wait_short hhigh hshort]; exact h
    · rw [Panel.wait_long hhigh hlong, Panel.endHigh, if_neg (by simp [hdue])]; exact h

/-- A byte that comes too early (R167, R170, R204). -/
theorem Panel.allUnknown_byte (h : q.tooEarly = true) (dc : Bit) (b : Byte) : (q.byte p v dc b).AllUnknown := by
  rw [Panel.byte_early h]
  exact (Panel.allUnknown_forgetAll _).startWake dc b

/-- A lost byte that comes too early (R85). -/
theorem Panel.allUnknown_lost (h : q.tooEarly = true) (op : SeqOp) (dc : Bit) (b : Byte) :
    (q.lost p op dc b).AllUnknown := by
  rw [Panel.lost_early h]
  exact (Panel.allUnknown_forgetAll _).startWake dc b

/-! ## The reset pulse (R167, R204) -/

/-- The receiver during a pulse that has lasted `ms` since its `Rst(0)`. -/
theorem Panel.wait_resetLow (q : Panel) (ms : Nat) : (q.resetLow.wait ms).lowFor = some (q.lowFor.getD 0 + ms) := by
  rw [Panel.wait_of_none q.resetLow_highFor]
  rfl

/-- However long the pulse was, the wait before the next byte starts at its end. -/
theorem Panel.highFor_pulse (q : Panel) (ms : Nat) : (q.resetLow.wait ms).resetHigh.highFor = some 0 := by
  rcases Nat.lt_or_ge (q.lowFor.getD 0 + ms) 100 with hshort | hlong
  · rw [Panel.resetHigh_short (q.wait_resetLow ms) hshort]
  · rw [Panel.resetHigh_long (q.wait_resetLow ms) hlong]

/-- Less than 100 ms after the pulse the wait is still running. -/
theorem Panel.highFor_wait_pulse (q : Panel) (low : Nat) {high : Nat} (h : high < 100) :
    ((q.resetLow.wait low).resetHigh.wait high).highFor = some high := by
  rw [Panel.wait_short (q.highFor_pulse low) (by omega), Nat.zero_add]

/-- Settles O55: a pulse that is long enough makes a reset due, which the end of the second wait carries out; one that
is not forgets every field, and so does what comes before the wait is over. -/
theorem panelHardwareReset : Obligations.PanelHardwareReset := by
  intro p v q op a c
  have hpulse : q.fold p v (tagged op [.rst 0#1, .delay a, .rst 1#1, .delay c]) =
    (q.resetLow.wait a.toNat).resetHigh.wait c.toNat := rfl
  refine ⟨fun ha hc => ?long, fun ha hlow => ?short, fun hc => ⟨fun dc x => ?byte, ?rst⟩, fun dc x => ?low⟩
  case long =>
    refine ⟨_, rfl, ?_⟩
    rw [hpulse, Panel.resetHigh_long (q.wait_resetLow a.toNat) (by omega), Panel.wait_long rfl (by omega),
      Panel.endHigh, if_pos rfl]
    exact ⟨rfl, rfl, rfl, rfl, rfl, rfl, rfl, rfl, rfl, rfl, rfl, rfl, rfl, rfl⟩
  case short =>
    have hshort : q.lowFor.getD 0 + a.toNat < 100 := by simpa [hlow] using ha
    rw [hpulse, Panel.resetHigh_short (q.wait_resetLow a.toNat) hshort]
    refine Panel.AllUnknown.wait ?_ rfl _
    exact Panel.allUnknown_forgetAll (q.resetLow.wait a.toNat)
  case byte => exact Panel.allUnknown_byte (Panel.tooEarly_of_high (q.highFor_wait_pulse a.toNat hc) hc) dc x
  case rst =>
    have hearly : shortOf tRstHigh.toNat ((q.resetLow.wait a.toNat).resetHigh.wait c.toNat).highFor = true := by
      rw [q.highFor_wait_pulse a.toNat hc]
      exact decide_eq_true hc
    have hrst : q.fold p v (tagged op [.rst 0#1, .delay a, .rst 1#1, .delay c, .rst 0#1]) =
      ((q.resetLow.wait a.toNat).resetHigh.wait c.toNat).resetLow := rfl
    rw [hrst, Panel.resetLow, if_pos hearly]
    exact Panel.allUnknown_forgetAll ((q.resetLow.wait a.toNat).resetHigh.wait c.toNat)
  case low => exact Panel.allUnknown_byte (Panel.tooEarly_of_low q.resetLow_rstLevel) dc x

/-! ## A lost byte, and an unknown command (R174, R175) -/

theorem shortOf_iff (ms : Nat) (t : Option Nat) : shortOf ms t = true ↔ ∃ n, t = some n ∧ n < ms := by
  cases t <;> simp [shortOf]

/-- When a byte comes too early (R167, R170, R204). -/
theorem Panel.tooEarly_iff (q : Panel) :
    q.tooEarly = true ↔
      q.rstLevel = .low ∨ (∃ n, q.highFor = some n ∧ n < 100) ∨ ∃ n, q.wakeFor = some n ∧ n < 120 := by
  rw [Panel.tooEarly, Bool.or_eq_true, Bool.or_eq_true, shortOf_iff, shortOf_iff, beq_iff_eq, or_assoc]
  rfl

/-- A byte lost in `INITIALIZE` (R174). -/
theorem Panel.allUnknown_lost_initializeOp (q : Panel) (dc : Bit) (b : Byte) :
    (q.lost p .initializeOp dc b).AllUnknown := by
  cases hearly : q.tooEarly with
  | true => exact Panel.allUnknown_lost hearly _ dc b
  | false =>
    rw [Panel.lost_of_not_early hearly]
    exact (Panel.allUnknown_forgetAll _).startWake dc b

/-- A command that is none of the known ones (R175). -/
theorem Panel.command_of_unknown {c : Byte}
    (h : c ∉ [p.ops.ramwr, p.ops.slpout, p.ops.dispon, p.ops.invon, p.ops.invoff, p.ops.caset, p.ops.raset])
    (hconfig : c ∉ configCmds p v) : q.command p v c = q.forgetAll := by
  simp only [List.mem_cons, List.not_mem_nil, or_false, not_or] at h
  obtain ⟨hramwr, hslpout, hdispon, hinvon, hinvoff, hcaset, hraset⟩ := h
  simp [Panel.command, hramwr, hslpout, hdispon, hinvon, hinvoff, hcaset, hraset, hconfig]

/-- Settles O56: a lost byte forgets what its operation says, or everything where it comes too early. -/
theorem panelForgets : Obligations.PanelForgets := by
  intro p v q dc b op
  refine ⟨q.allUnknown_lost_initializeOp dc b, ⟨q.lost p .writeFrame dc b, rfl, ?write⟩,
    fun hearly => Panel.allUnknown_lost hearly op dc b, q.tooEarly_iff.symm, fun hnamed hconfig => ?command⟩
  case write =>
    cases hearly : q.tooEarly with
    | true =>
      obtain ⟨-, -, -, -, -, -, hxs, hxe, hys, hye, hpx, hpy, hmode, hgram⟩ :=
        Panel.allUnknown_lost (p := p) hearly .writeFrame dc b
      exact ⟨nofun, hgram, hxs, hxe, hys, hye, hpx, hpy, hmode⟩
    | false =>
      rw [Panel.lost_of_not_early hearly]
      simp [Panel.SameConfig, Panel.forgetLost]
  case command =>
    cases hearly : q.tooEarly with
    | true => exact Panel.allUnknown_byte hearly 0#1 b
    | false =>
      rw [Panel.event_byte, Panel.byte_command hearly, Panel.command_of_unknown hnamed hconfig]
      exact (Panel.allUnknown_forgetAll _).startWake 0#1 b

end Sys2Proof.Machine
end

section
/-! A good run at the panel receiver (R177): after the bring-up the panel stays awake, on and lit in a good format
through every `WRITE_FRAME`, whole or aborted, and so the last whole one is shown. -/

namespace Sys2Proof.Machine

variable {p : Params} {v : Variant} {q r : Panel} {cfg : Cfg} {c : Byte} {op : SeqOp}

/-! ## The bytes of a `WRITE_FRAME`, one by one (R168, R169, R171) -/

theorem Panel.SameConfig.refl (q : Panel) : q.SameConfig q := ⟨rfl, rfl, rfl, rfl, rfl, rfl⟩

theorem Panel.SameConfig.trans {t : Panel} (h : q.SameConfig r) (h' : r.SameConfig t) : q.SameConfig t := by
  obtain ⟨hsleep, hdisp, hcolmod, hmadctl, hinv, hregs⟩ := h
  obtain ⟨hsleep', hdisp', hcolmod', hmadctl', hinv', hregs'⟩ := h'
  exact ⟨hsleep'.trans hsleep, hdisp'.trans hdisp, hcolmod'.trans hcolmod, hmadctl'.trans hmadctl, hinv'.trans hinv,
    hregs'.trans hregs⟩

/-- The receiver takes a window's parameters, or ignores data, or takes pixels. -/
def Panel.InFrame (p : Params) (q : Panel) : Prop :=
  q.mode = some .idle ∨ (∃ c l, (c = p.ops.caset ∨ c = p.ops.raset) ∧ q.mode = some (.params c l)) ∨
    ∃ hi, q.mode = some (.stream hi)

/-- The commands of a `WRITE_FRAME`: the windows' and `RAMWR`. -/
def IsFrameCmd (o : OpBytes) (c : Byte) : Prop := c = o.caset ∨ c = o.raset ∨ c = o.ramwr

/-- The events of a `WRITE_FRAME` are its commands and data bytes. -/
def IsFrameEvent (o : OpBytes) (e : WireEvent) : Prop := (∃ c, IsFrameCmd o c ∧ e = .byte 0#1 c) ∨ ∃ d, e = .byte 1#1 d

theorem isFrameEvent_of_mem {o : OpBytes} {fb : List Byte} : ∀ e ∈ frameEvents o cfg fb, IsFrameEvent o e := by
  have hdata : ∀ (ds : List Byte), ∀ e ∈ ds.map (WireEvent.byte 1#1), IsFrameEvent o e := fun ds e he => by
    obtain ⟨d, -, rfl⟩ := List.mem_map.mp he
    exact .inr ⟨d, rfl⟩
  simp only [frameEvents, List.forall_mem_append, List.forall_mem_singleton]
  exact ⟨⟨⟨⟨⟨.inl ⟨_, .inl rfl, rfl⟩, hdata _⟩, .inl ⟨_, .inr (.inl rfl), rfl⟩⟩, hdata _⟩,
    .inl ⟨_, .inr (.inr rfl), rfl⟩⟩, fun e he => .inr (eq_dataByte_of_mem_streamEvents he)⟩

/-- None of the commands is `SLPOUT`. -/
theorem ne_slpout_of_isFrameCmd (hd : p.ops.distinct = true) (hc : IsFrameCmd p.ops c) : c ≠ p.ops.slpout := by
  rintro rfl
  rcases hc with hcaset | hraset | hramwr
  · exact OpBytes.not_mem_of_params hd (c := p.ops.slpout) (by simp [hcaset]) (by simp)
  · exact OpBytes.not_mem_of_params hd (c := p.ops.slpout) (by simp [hraset]) (by simp)
  · simpa [hramwr] using OpBytes.nodup_acting hd

/-- An event of a `WRITE_FRAME` starts no wait. -/
theorem IsFrameEvent.byte {e : WireEvent} (hd : p.ops.distinct = true) (h : IsFrameEvent p.ops e) :
    ∃ dc b, e = .byte dc b ∧ (dc = 0#1 → b ≠ p.ops.slpout) := by
  rcases h with ⟨c, hc, rfl⟩ | ⟨d, rfl⟩
  · exact ⟨_, _, rfl, fun _ => ne_slpout_of_isFrameCmd hd hc⟩
  · exact ⟨_, _, rfl, by simp⟩

/-- A command of a `WRITE_FRAME` opens a window or the stream, and changes no configuration. -/
theorem Panel.byte_frameCmd (hd : p.ops.distinct = true) (hq : q.tooEarly = false) (hc : IsFrameCmd p.ops c) :
    q.SameConfig (q.byte p v 0#1 c) ∧ (q.byte p v 0#1 c).InFrame p := by
  have hwindow : (c = p.ops.caset ∨ c = p.ops.raset) →
      { q with resetDue := false }.command p v c = { q with resetDue := false, mode := some (.params c []) } :=
    fun hc => Panel.command_of_params (OpBytes.not_mem_of_params hd (by rcases hc with rfl | rfl <;> simp))
      (hc.imp_right .inl)
  rw [Panel.byte_command_of_ne hq (ne_slpout_of_isFrameCmd hd hc)]
  rcases hc with hcaset | hraset | rfl
  · rw [hwindow (.inl hcaset)]
    exact ⟨.refl q, .inr (.inl ⟨c, [], .inl hcaset, rfl⟩)⟩
  · rw [hwindow (.inr hraset)]
    exact ⟨.refl q, .inr (.inl ⟨c, [], .inr hraset, rfl⟩)⟩
  · rw [Panel.command, if_pos rfl]
    exact ⟨.refl q, .inr (.inr ⟨none, rfl⟩)⟩

/-- A parameter of a window changes the window only. -/
theorem Panel.param_window (hc : c = p.ops.caset ∨ c = p.ops.raset) (l : List Byte) :
    q.SameConfig (q.param p v c l) ∧ (q.param p v c l).InFrame p := by
  have hlisted : ({ q with mode := some (.params c l) } : Panel).InFrame p := .inr (.inl ⟨c, l, hc, rfl⟩)
  unfold Panel.param
  split_ifs with hcaset hraset
  · unfold Panel.setColumns
    split
    · exact ⟨.refl q, .inl rfl⟩
    · exact ⟨.refl q, hlisted⟩
  · unfold Panel.setRows
    split
    · exact ⟨.refl q, .inl rfl⟩
    · exact ⟨.refl q, hlisted⟩
  all_goals exact absurd hc (by simp [hcaset, hraset])

/-- A data byte within a `WRITE_FRAME` changes no configuration. -/
theorem Panel.byte_frameData (hq : q.tooEarly = false) (h : q.InFrame p) (d : Byte) :
    q.SameConfig (q.byte p v 1#1 d) ∧ (q.byte p v 1#1 d).InFrame p := by
  rcases h with hidle | ⟨c, l, hc, hparams⟩ | ⟨hi, hstream⟩
  · rw [Panel.byte_data_idle hq hidle]
    exact ⟨.refl q, .inl hidle⟩
  · rw [Panel.byte_data_params hq hparams]
    exact Panel.param_window (q := { q with resetDue := false }) hc _
  · simp only [Panel.byte_data hq, Panel.data, hstream]
    cases hi with
    | none => exact ⟨.refl q, .inr (.inr ⟨_, rfl⟩)⟩
    | some hi => exact ⟨.refl q, .inr (.inr ⟨_, rfl⟩)⟩

/-- Events of a `WRITE_FRAME`, from its first command on, change no configuration. -/
theorem Panel.sameConfig_fold (hd : p.ops.distinct = true) {es : List WireEvent} (q : Panel) (hq : q.tooEarly = false)
    (hframe : q.InFrame p) (hes : ∀ e ∈ es, IsFrameEvent p.ops e) : q.SameConfig (q.fold p v (tagged op es)) := by
  induction es generalizing q with
  | nil => exact .refl q
  | cons e es ih =>
    obtain ⟨he, hrest⟩ := List.forall_mem_cons.mp hes
    have hstep : q.SameConfig (q.event p v ⟨op, e⟩) ∧ (q.event p v ⟨op, e⟩).InFrame p := by
      rcases he with ⟨c, hc, rfl⟩ | ⟨d, rfl⟩
      · exact Panel.byte_frameCmd hd hq hc
      · exact Panel.byte_frameData hq hframe d
    obtain ⟨dc, b, rfl, hb⟩ := he.byte hd
    obtain ⟨hconfig, hframe'⟩ := hstep
    exact hconfig.trans (ih _ ((q.sameTracking_byte hb).tooEarly_eq.trans hq) hframe' hrest)

/-- The first events of a `WRITE_FRAME`, as many as there are before a failure, change no configuration. -/
theorem Panel.sameConfig_fold_take (hd : p.ops.distinct = true) (hq : q.tooEarly = false) (fb : List Byte) (n : Nat) :
    q.SameConfig (q.fold p v (tagged op ((frameEvents p.ops cfg fb).take n))) := by
  cases n with
  | zero => exact .refl q
  | succ n =>
    have hcaset : IsFrameCmd p.ops p.ops.caset := .inl rfl
    obtain ⟨hconfig, hframe⟩ := Panel.byte_frameCmd (v := v) hd hq hcaset
    have htrack : q.SameTracking (q.byte p v 0#1 p.ops.caset) :=
      q.sameTracking_byte fun _ => ne_slpout_of_isFrameCmd hd hcaset
    have hrest : ∀ e ∈ (frameEvents p.ops cfg fb).tail.take n, IsFrameEvent p.ops e := fun e he =>
      isFrameEvent_of_mem e (List.mem_of_mem_tail (List.mem_of_mem_take he))
    exact hconfig.trans (Panel.sameConfig_fold hd _ (htrack.tooEarly_eq.trans hq) hframe hrest)

/-! ## An attempt at a frame -/

/-- The panel is awake, on and lit, in a good format, and ready for a byte. -/
structure Panel.Lit (p : Params) (v : Variant) (q : Panel) : Prop where
  sleep : q.sleep = some .sleepOut
  disp : q.disp = some .on
  blLevel : q.blLevel = .high
  ready : q.tooEarly = false
  format : q.GoodFormat p v

theorem Panel.Lit.of_same (h : q.Lit p v) (hconfig : q.SameConfig r) (htrack : q.SameTracking r) : r.Lit p v := by
  have ⟨hsleep, hdisp, _, _, _, _⟩ := hconfig
  have ⟨_, hbl, _, _, _⟩ := htrack
  exact ⟨hsleep.trans h.sleep, hdisp.trans h.disp, hbl.trans h.blLevel, htrack.tooEarly_eq.trans h.ready,
    h.format.of_sameConfig hconfig⟩

/-- A byte lost in `WRITE_FRAME` keeps the configuration (R174). -/
theorem Panel.Lit.lost (h : q.Lit p v) {dc : Bit} {b : Byte} (hb : dc = 0#1 → b ≠ p.ops.slpout) :
    (q.lost p .writeFrame dc b).Lit p v := by
  rw [Panel.lost_of_not_early h.ready, Panel.startWake_of_ne hb]
  exact h.of_same (.refl q) (.refl q)

/-- A `WRITE_FRAME` leaves the panel lit, whether it succeeds or fails at whatever byte. -/
theorem Panel.Lit.attempt (h : q.Lit p v) (hd : p.ops.distinct = true) (hlegal : cfg.legal)
    {a : List Byte × Option Nat} (hlen : a.1.length = 3 * cfg.w * cfg.h)
    (hn : ∀ n, a.2 = some n → n < 11 + 2 * (cfg.w * cfg.h)) :
    (q.fold p v (tagged .writeFrame (attemptEvents p.ops cfg a))).Lit p v := by
  obtain ⟨fb, failing⟩ := a
  cases failing with
  | none =>
    have hpainted := Panel.painted_fold_frameEvents (op := .writeFrame) hd hlegal hlen h.ready h.format
    exact h.of_same hpainted.config hpainted.tracking
  | some n =>
    have hlt : n < (frameEvents p.ops cfg fb).length := by
      rw [length_frameEvents, pixels_of_length_eq hlen]
      exact hn n rfl
    obtain ⟨dc, b, he, hb⟩ := (isFrameEvent_of_mem _ (List.getElem_mem hlt)).byte hd
    have hsent := h.of_same (Panel.sameConfig_fold_take (v := v) (op := .writeFrame) (cfg := cfg) hd h.ready fb n)
      (Panel.sameTracking_fold .writeFrame q fun e he => (isFrameEvent_of_mem e (List.mem_of_mem_take he)).byte hd)
    rw [attemptEvents, List.getElem?_eq_getElem hlt, he, tagged_append, Panel.fold_append]
    exact hsent.lost hb

/-- Any number of attempts leave the panel lit. -/
theorem Panel.Lit.attempts (hd : p.ops.distinct = true) (hlegal : cfg.legal) {as : List (List Byte × Option Nat)}
    (has : ∀ a ∈ as, a.1.length = 3 * cfg.w * cfg.h ∧ ∀ n, a.2 = some n → n < 11 + 2 * (cfg.w * cfg.h)) (q : Panel)
    (h : q.Lit p v) :
    (q.fold p v (as.map fun a => tagged .writeFrame (attemptEvents p.ops cfg a)).flatten).Lit p v := by
  induction as generalizing q with
  | nil => exact h
  | cons a as ih =>
    obtain ⟨⟨hlen, hn⟩, has⟩ := List.forall_mem_cons.mp has
    rw [List.map_cons, List.flatten_cons, Panel.fold_append]
    exact ih has _ (h.attempt hd hlegal hlen hn)

/-- Settles O60: the bring-up lights the panel, the attempts leave it lit, and the last frame paints it. -/
theorem goodRunShowsFrame : Obligations.GoodRunShowsFrame := by
  intro p q cfg attempts fb hd hlegal hown hcolmod hmadctl hknown hattempts hlen
  obtain ⟨q₁, hq₁, hsleep, hdisp, hbl, -, -, hready, hm, hc⟩ :=
    bringUpLightsPanel p cfg.variant q cfg hd hown hcolmod hmadctl hknown
  have hlit₁ : q₁.Lit p cfg.variant := ⟨hsleep, hdisp, hbl, hready, hm, hc⟩
  have hlit₂ := Panel.Lit.attempts hd hlegal hattempts q₁ hlit₁
  obtain ⟨⟨m, hmok, hm₂⟩, c, hcok, hc₂⟩ := hlit₂.format
  obtain ⟨r, hr, ⟨hsleep', hdisp', -⟩, hbl', hxs, hys, hxe, hye, -, hpixels⟩ :=
    framePaintsPanel p cfg.variant _ cfg fb m c hd hlegal hlen hlit₂.ready hm₂ hmok hc₂ hcok
  have hsleep := hsleep'.trans hlit₂.sleep
  have hdisp := hdisp'.trans hlit₂.disp
  have hbl := hbl'.trans hlit₂.blLevel
  refine ⟨r, ?_, hsleep, hdisp, hbl, by simp [Panel.shows, hsleep, hdisp, hbl], hxs, hys, hxe, hye, hpixels⟩
  rw [Panel.fold_append, Panel.fold_append, ← hq₁, hr]

end Sys2Proof.Machine
end
